-- ==== Sys2Proof/Word.lean ====
section
/-! DEFINITION. Word.lean: the widths of the core (spec/00_scope.md R6, R9) and its register file as a type
(spec/10_state.md R15). Nothing in the core is signed (R9). -/

namespace Sys2Proof

/-- `u8`: a key byte, an IV byte, an entry of `S0` or `S1` (00_scope.md R9; 20_memory.md R30). -/
abbrev Byte := BitVec 8

/-- `u15`: an entry of the constant table `D` (20_memory.md R30). -/
abbrev LoadConstant := BitVec 15

/-- `u31`: an LFSR cell (00_scope.md R6, `WCELL`; 10_state.md R16). -/
abbrev Cell := BitVec 31

/-- `u32`: `R1`, `R2`, `X0..X3`, `W` and the output word (00_scope.md R6, `WWORD`). -/
abbrev Word := BitVec 32

/-- `CW[267:0]`: one command word (30_encoding.md R48). -/
abbrev CommandWord := BitVec 268

/-- The eighteen data registers of 10_state.md R15, which R98 of 44_commands.md calls "regs":
the cells `S[0..15]` (`NCELL` is 16, cell 0 the oldest) and the two words of F's memory. -/
structure Regs where
  cells : Vector Cell 16
  r1 : Word
  r2 : Word
deriving DecidableEq, Repr, Inhabited

end Sys2Proof
end

