-- ==== Sys2Proof/Syntax.lean ====
section
/-! DEFINITION. Syntax.lean: the four commands of the opcode map (spec/30_encoding.md R50, spec/opcode_table.json).
The don't-care bits of NOP, NEXT and RSVD are no operands (R54), so those three carry nothing. -/

namespace Sys2Proof

/-- One command of the core, one constructor per row of spec/opcode_table.json. -/
inductive Instr where
  /-- `NOP`, `op = 0b00` (44_commands.md R93). -/
  | nop
  /-- `INIT key, iv` with the byte lengths the host claims for them, `op = 0b01` (44_commands.md R90).
  A length is a count of bytes, so it is a number; its five-bit field bounds it (WellFormed).
  `key` and `iv` are the two 128-bit fields, byte 0 in the most significant place (30_encoding.md R51). -/
  | init (klen ivlen : Nat) (key iv : BitVec 128)
  /-- `NEXT`, `op = 0b10` (44_commands.md R91). -/
  | next
  /-- `RSVD`, the reserved opcode `0b11` (44_commands.md R94). -/
  | rsvd
deriving DecidableEq, Repr

end Sys2Proof
end

