-- ==== Sys2Proof/WellFormed.lean ====
section
/-! DEFINITION. WellFormed.lean: which commands have a command word. -/

namespace Sys2Proof

/-- A length the five-bit field `klen` or `ivlen` can carry: "A length of 32 or more cannot be encoded"
(30_encoding.md R52). -/
def lengthEncodable (n : Nat) : Bool := n ≤ 31

/-- A command that some command word encodes. Every combination of field values with `op` in `0b00`, `0b01`, `0b10`
is a defined command and `0b11` is the reserved one (30_encoding.md R55), so the two lengths are the only checks. -/
def WellFormed (i : Instr) : Bool :=
  match i with
  | .nop => true
  | .init klen ivlen _ _ => lengthEncodable klen && lengthEncodable ivlen
  | .next => true
  | .rsvd => true

end Sys2Proof
end

