-- ==== Sys2Proof/Decode.lean ====
section
/-! DEFINITION. Decode.lean: the decoder of the command port and its encoder, both from spec/30_encoding.md. -/

namespace Sys2Proof

/-- `op = CW[267:266]` (30_encoding.md R49). -/
def fieldOp (cw : CommandWord) : BitVec 2 := cw.extractLsb' 266 2

/-- `klen = CW[265:261]` (30_encoding.md R49). -/
def fieldKlen (cw : CommandWord) : BitVec 5 := cw.extractLsb' 261 5

/-- `ivlen = CW[260:256]` (30_encoding.md R49). -/
def fieldIvlen (cw : CommandWord) : BitVec 5 := cw.extractLsb' 256 5

/-- `key = CW[255:128]` (30_encoding.md R49). -/
def fieldKey (cw : CommandWord) : BitVec 128 := cw.extractLsb' 128 128

/-- `iv = CW[127:0]` (30_encoding.md R49). -/
def fieldIv (cw : CommandWord) : BitVec 128 := cw.extractLsb' 0 128

/-- "A decoder is: read `CW[267:266]`; that is all" (30_encoding.md R50). It is total (R62); the bits a command does
not use are not read (R54). -/
def decode (cw : CommandWord) : Instr :=
  if fieldOp cw = 0b00#2 then .nop
  else if fieldOp cw = 0b01#2 then
    .init (fieldKlen cw).toNat (fieldIvlen cw).toNat (fieldKey cw) (fieldIv cw)
  else if fieldOp cw = 0b10#2 then .next
  else .rsvd

/-- Why bits given as a number are no command. -/
inductive DecodeReject where
  /-- The number has a bit above bit 267: "every command is exactly one word" of 268 bits (30_encoding.md R48). -/
  | notOneCommandWord
deriving DecidableEq, Repr

/-- The decoder on bits given as a number, bit 0 the least significant: the command port has 268 wires
(30_encoding.md R48), so a number that needs more is refused by name (log entry 8). -/
def decodeBits (w : Nat) : Except DecodeReject Instr :=
  if w >>> 268 = 0 then .ok (decode (BitVec.ofNat 268 w)) else .error .notOneCommandWord

/-- The instruction the decoder reads from the bits `w`, in the opcode table's numbering: one word, bit 0 its least
significant bit. Every bit above the `nbits` the table gives is 0, so the number `w` says all. -/
def decodeTableWord (nbits w : Nat) : Option Instr :=
  let _ := nbits
  match decodeBits w with
  | .ok i => some i
  | .error _ => none

/-- `op || klen || ivlen || key || iv`, the layout of 30_encoding.md R49. -/
def assemble (op : BitVec 2) (klen ivlen : BitVec 5) (key iv : BitVec 128) : CommandWord :=
  op ++ klen ++ ivlen ++ key ++ iv

/-- The command word of a well-formed command. "The assembler sets the don't-care bits" of NOP, NEXT and RSVD
"to zero" (30_encoding.md R58). -/
def encode (i : Instr) : CommandWord :=
  match i with
  | .nop => assemble 0b00#2 0 0 0 0
  | .init klen ivlen key iv => assemble 0b01#2 (BitVec.ofNat 5 klen) (BitVec.ofNat 5 ivlen) key iv
  | .next => assemble 0b10#2 0 0 0 0
  | .rsvd => assemble 0b11#2 0 0 0 0

end Sys2Proof
end

