-- ==== Sys2Proof/Config.lean ====
section
/-! DEFINITION. Config.lean: the values the spec leaves without a number (spec/93_implementation_defined.md U8, U20).
Every size of the core is fixed (spec/00_scope.md R6), so nothing else stands here. Both constants are opaque: nothing
in Lean can evaluate them, so no claim can rest on a number for them (notes/assumptions/1.md). -/

namespace Sys2Proof

/-- DESIGN CHOICE (log entry 1). What the data registers hold after the first reset. The spec says they "hold no value"
(10_state.md R27, R28; 70_reset_and_hazards.md R131) and that a model must not make them zeros, so they hold this one
value of which nothing is known. -/
opaque Config.resetRegs : Regs

/-- DESIGN CHOICE (log entry 1). What the data registers hold after a later `rst`: a free value, fresh for each reset
(the first argument numbers it), and able to depend on what the registers held before, because `rst` "marks the
registers as holding no value without promising to overwrite them" (70_reset_and_hazards.md R141), so that no erasure
can be proved (U20). -/
opaque Config.regsAfterReset : Nat → Regs → Regs

end Sys2Proof
end

