-- ==== Sys2Proof/Machine/State.lean ====
section
/-! DEFINITION. Machine/State.lean: the state of one instance of the core as plain data (spec/10_state.md R15), with
the ports of spec/30_encoding.md R48 beside it, since the step of Host.Core has no other input and output. -/

namespace Sys2Proof.Machine

/-- One response of the core (30_encoding.md R53). `z_valid` is 1 exactly when `z` holds a word; when it is 0 "the
model's response carries no word at all (an option that is `none`), never zero". -/
structure Response where
  status : BitVec 2
  z : Option Word
deriving DecidableEq, Repr

/-- What the host does at the ports during one step (30_encoding.md R48; 70_reset_and_hazards.md R131, R132). -/
inductive HostMove where
  /-- `cmd_valid = 0` and `rst` not asserted. -/
  | idle
  /-- `rst` asserted, between two commands (70_reset_and_hazards.md R132). -/
  | rst
  /-- `cmd_valid = 1` with this word on `cmd`. -/
  | command (cw : CommandWord)
deriving DecidableEq, Repr

/-- The state. The first four fields are the whole of 10_state.md R15; the last three are the model's own. -/
structure State where
  /-- `S[0..15]`, `R1`, `R2` (10_state.md R16, R18). -/
  regs : Regs
  /-- `INITED` (10_state.md R19). -/
  inited : Bool
  /-- `WARM` (10_state.md R20). -/
  warm : Bool
  /-- `FAULT` (10_state.md R21). -/
  fault : BitVec 2
  /-- The response port: the response of the command just finished, or none (`rsp_valid = 0`) (log entry 3). -/
  rsp : Option Response
  /-- What the host will do at the ports, the next move first (log entry 2). -/
  host : List HostMove
  /-- How many times `rst` was asserted in this run (log entry 1). -/
  resets : Nat
deriving DecidableEq, Repr

/-- Why a step stops for good. No constructor: nothing in the core is stuck ("a faulted core still answers every
command", 93_implementation_defined.md section 1; 70_reset_and_hazards.md R142), and the three faults of 60_exceptions.md
R113 are effects of a command with a response, so each is a next state (log entry 6). -/
inductive Fault where
deriving DecidableEq, Repr

/-- Why the model has no meaning for an instruction. -/
inductive Refusal where
  /-- An arm of exec that has no meaning yet, named by its mnemonic. No arm raises it: every command is modelled.
  Safe: the run would stop. -/
  | notModelled (mnemonic : String)
deriving DecidableEq, Repr

/-- The state after the first reset (10_state.md R27; 70_reset_and_hazards.md R131): the three flags are 0; the data
registers have no value in the spec, so they hold the opaque `Config.resetRegs` (DESIGN CHOICE, log entry 1); no
response is present (log entry 3), and the host has nothing scheduled (log entry 2). -/
def State.reset : State where
  regs := Config.resetRegs
  inited := false
  warm := false
  fault := 0
  rsp := none
  host := []
  resets := 0

end Sys2Proof.Machine
end

