-- ==== Sys2Proof/Machine/Flags.lean ====
section
/-! DEFINITION. Machine/Flags.lean: the status codes, the three faults, and the three flag fields INITED, WARM and FAULT
(spec/10_state.md R19 to R21, R24; spec/60_exceptions.md R113). No arithmetic operation writes a flag (40_arith31.md
R67). -/

namespace Sys2Proof.Machine

/-- Status code 0, `OK` (30_encoding.md R53). -/
def statusOk : BitVec 2 := 0

/-- The faults of the core, the complete list (60_exceptions.md R113). -/
inductive CoreFault where
  /-- Class (a): INIT with a length that is not 16 (60_exceptions.md R114). -/
  | invalidLength
  /-- Class (b): NEXT with `INITED = 0` (60_exceptions.md R115). -/
  | uninitialized
  /-- The reserved opcode (60_exceptions.md R116). -/
  | illegalCommand
deriving DecidableEq, Repr

/-- The status code of a fault (60_exceptions.md R113). -/
def faultCode (x : CoreFault) : BitVec 2 :=
  match x with
  | .invalidLength => 1
  | .uninitialized => 2
  | .illegalCommand => 3

/-- Whether a fault is fatal, that is, sets the sticky `FAULT` (60_exceptions.md R113). -/
def faultIsFatal (x : CoreFault) : Bool :=
  match x with
  | .invalidLength => false
  | .uninitialized => true
  | .illegalCommand => true

/-- Step 4 of INIT: `INITED <- 1`, `WARM <- 0` (44_commands.md R90). -/
def markReady (s : State) : State := { s with inited := true, warm := false }

/-- "then mark warm-up consumed": `WARM <- 1`, no change unless it is the first NEXT after an INIT (44_commands.md R91). -/
def markWarm (s : State) : State := { s with warm := true }

/-- `FAULT <- c` and nothing else: fatal fault entry (60_exceptions.md R121). -/
def setFault (c : BitVec 2) (s : State) : State := { s with fault := c }

end Sys2Proof.Machine
end

