-- ==== Sys2Proof/Machine/Ops.lean ====
section
/-! DEFINITION. Machine/Ops.lean: the operations every command shares: writing the data registers, responding, taking a
fault, the sticky refusal, the hardware reset, and taking the host's next move from the ports. The core has no writable
memory (spec/20_memory.md R32), so there is no memory operation. -/

namespace Sys2Proof.Machine

/-- Write all eighteen data registers. -/
def setRegs (r : Regs) (s : State) : State := { s with regs := r }

/-- `respond(status, zv, z)`, `zv` being whether `z` holds a word (30_encoding.md R53, 00_scope.md R10). -/
def respond (status : BitVec 2) (z : Option Word) (s : State) : State :=
  { s with rsp := some { status := status, z := z } }

/-- `raise X` (60_exceptions.md R117): taking a fault. A fatal fault writes its code to `FAULT` and nothing else (R121);
`InvalidLength` writes no state at all (R114). The response is `(code of X, 0, none)`. Nothing is saved and control goes
nowhere (R121). -/
def raiseFault (x : CoreFault) (s : State) : State :=
  respond (faultCode x) none (if faultIsFatal x then setFault (faultCode x) s else s)

/-- The first action of every command (60_exceptions.md R119, R122): with `FAULT != 0` the command does nothing and
responds `(FAULT, 0, none)`. -/
def unlessFaulted (command : State → State) (s : State) : State :=
  if s.fault = 0 then command s else respond s.fault none s

/-- The `rst` input (70_reset_and_hazards.md R131), the only exit from a fatal fault (60_exceptions.md R123): the three
flags are 0, no response is given (R132), and the data registers hold no value, so they take a free value (DESIGN
CHOICE, log entry 1). What the host will do next is the host's and stays. -/
def hardwareReset (s : State) : State where
  regs := Config.regsAfterReset s.resets s.regs
  inited := false
  warm := false
  fault := 0
  rsp := none
  host := s.host
  resets := s.resets + 1

/-- A step in which the host presents no command: the core "holds its state indefinitely" (60_exceptions.md R130) and no
response is present (`rsp_valid = 0`, 30_encoding.md R48). -/
def portIdle (s : State) : State := { s with rsp := none }

/-- The host's next move and the state with it taken from the schedule; a host with nothing left to do leaves the port
idle (44_commands.md R99: the core never halts of itself; log entry 2). -/
def nextMove (s : State) : HostMove × State :=
  match s.host with
  | [] => (.idle, s)
  | m :: rest => (m, { s with host := rest })

end Sys2Proof.Machine
end

