-- ==== Sys2Proof/Machine/BitReorg.lean ====
section
/-! DEFINITION. Machine/BitReorg.lean: the bit-reorganization network (spec/42_bitreorg.md). -/

namespace Sys2Proof.Machine

/-- The four words of BITREORG, a derived view that no round carries into another (10_state.md R22). -/
structure XWords where
  x0 : Word
  x1 : Word
  x2 : Word
  x3 : Word
deriving DecidableEq, Repr

/-- `H(c) = c[30:15]`, the high 16 bits of a 31-bit cell (42_bitreorg.md R77). -/
def highHalf (c : Cell) : BitVec 16 := c.extractLsb' 15 16

/-- `L(c) = c[15:0]`, the low 16 bits; bit 15 belongs to both halves (42_bitreorg.md R77). -/
def lowHalf (c : Cell) : BitVec 16 := c.extractLsb' 0 16

/-- `BITREORG()` (42_bitreorg.md R77). -/
def bitReorg (s : Vector Cell 16) : XWords where
  x0 := highHalf s[15] ++ lowHalf s[14]
  x1 := lowHalf s[11] ++ highHalf s[9]
  x2 := lowHalf s[7] ++ highHalf s[5]
  x3 := lowHalf s[2] ++ highHalf s[0]

end Sys2Proof.Machine
end

