-- ==== Sys2Proof/Machine/Arith31.lean ====
section
/-! DEFINITION. Machine/Arith31.lean: the arithmetic primitives (spec/40_arith31.md). `a +32 b` (R66) is `a + b` on
`Word`, which wraps and drops the carry. None writes a flag or raises anything (R67, R68). -/

namespace Sys2Proof.Machine

/-- `ADD31(a, b)` (40_arith31.md R63): the sum in 32 bits, bit 31 of it added back once into the low 31 bits.
Nothing reduces `0x7FFFFFFF` to 0 (R69; 90_conflicts.md C2, C6). -/
def add31 (a b : Cell) : Cell :=
  let s : Word := a.setWidth 32 + b.setWidth 32
  ((s &&& 0x7FFFFFFF#32) + (s >>> 31)).setWidth 31

/-- `ROT31(x, k)` (40_arith31.md R64): the 31-bit cyclic left rotate, computed in 32 bits. -/
def rot31 (x : Cell) (k : Nat) : Cell :=
  (((x.setWidth 32 <<< k) ||| (x.setWidth 32 >>> (31 - k))) &&& 0x7FFFFFFF#32).setWidth 31

/-- `ROT32(x, k)` (40_arith31.md R65): the 32-bit cyclic left rotate. -/
def rot32 (x : Word) (k : Nat) : Word :=
  (x <<< k) ||| (x >>> (32 - k))

end Sys2Proof.Machine
end

