-- ==== Sys2Proof/Machine/FFunction.lean ====
section
/-! DEFINITION. Machine/FFunction.lean: the diffusion transforms, the lookup engine and the nonlinear function F
(spec/43_f_function.md). -/

namespace Sys2Proof.Machine

/-- `L1(x)` (43_f_function.md R80). -/
def diffuse1 (x : Word) : Word :=
  x ^^^ rot32 x 2 ^^^ rot32 x 10 ^^^ rot32 x 18 ^^^ rot32 x 24

/-- `L2(x)` (43_f_function.md R81). -/
def diffuse2 (x : Word) : Word :=
  x ^^^ rot32 x 8 ^^^ rot32 x 14 ^^^ rot32 x 22 ^^^ rot32 x 30

/-- `SBOX32(x)` (43_f_function.md R82): the most significant byte through `S0`, then `S1`, `S0`, `S1`. -/
def sbox32 (x : Word) : Word :=
  readS0 (x.extractLsb' 24 8) ++ readS1 (x.extractLsb' 16 8) ++
    readS0 (x.extractLsb' 8 8) ++ readS1 (x.extractLsb' 0 8)

/-- The low half of `a` over the high half of `b`: the crossing of 43_f_function.md R84. -/
def crossHalves (a b : Word) : Word :=
  a.extractLsb' 0 16 ++ b.extractLsb' 16 16

/-- What one evaluation of F gives: its output `W` and the new F memory (43_f_function.md R84). -/
structure FResult where
  w : Word
  r1 : Word
  r2 : Word
deriving DecidableEq, Repr

/-- `F(X0, X1, X2)` with the F memory `R1`, `R2` it reads (43_f_function.md R84). `W` and both new registers come from
the old `R1` and `R2`; `X3` is not used (42_bitreorg.md R78, 90_conflicts.md C4). -/
def nonlinearF (x0 x1 x2 r1 r2 : Word) : FResult :=
  let w1 := r1 + x1
  let w2 := r2 ^^^ x2
  { w := (x0 ^^^ r1) + r2
    r1 := sbox32 (diffuse1 (crossHalves w1 w2))
    r2 := sbox32 (diffuse2 (crossHalves w2 w1)) }

end Sys2Proof.Machine
end

