-- ==== Sys2Proof/Machine/Operands.lean ====
section
/-! DEFINITION. Machine/Operands.lean: the operands of INIT (spec/30_encoding.md section 3). The other commands have
none. -/

namespace Sys2Proof.Machine

/-- Byte `i` of a 128-bit key or IV field, byte 0 in bits 127..120 (30_encoding.md R51, 20_memory.md R38). -/
def fieldByte (field : BitVec 128) (i : Nat) : Byte :=
  field.extractLsb' (120 - 8 * i) 8

/-- The length test of INIT: both lengths are 16 bytes (30_encoding.md R52, 44_commands.md R90). -/
def lengthsAccepted (klen ivlen : Nat) : Bool :=
  klen == 16 && ivlen == 16

end Sys2Proof.Machine
end

