-- ==== Sys2Proof/Machine/Lfsr.lean ====
section
/-! DEFINITION. Machine/Lfsr.lean: the operations on the 16 cells (spec/41_lfsr.md). -/

namespace Sys2Proof.Machine

/-- One loaded cell, `key_i || D[i] || iv_i`: bits 30..23, 22..8, 7..0 (41_lfsr.md R70). -/
def loadedCell (key iv : BitVec 128) (i : Fin 16) : Cell :=
  fieldByte key i ++ readD i ++ fieldByte iv i

/-- `LOADCELLS(key, iv)` (41_lfsr.md R70). -/
def loadCells (key iv : BitVec 128) : Vector Cell 16 :=
  Vector.ofFn (loadedCell key iv)

/-- `SHIFT(f)` (41_lfsr.md R71): every `S[i+1]` moves into `S[i]` and `f` into `S[15]`, all at once. -/
def shiftCells (s : Vector Cell 16) (f : Cell) : Vector Cell 16 :=
  #v[s[1], s[2], s[3], s[4], s[5], s[6], s[7], s[8],
     s[9], s[10], s[11], s[12], s[13], s[14], s[15], f]

/-- `FEEDBACK()` (41_lfsr.md R72): six terms from five cells, cell 0 both raw and rotated (90_conflicts.md C3). -/
def feedback (s : Vector Cell 16) : Cell :=
  let f := s[0]
  let f := add31 f (rot31 s[0] 8)
  let f := add31 f (rot31 s[4] 20)
  let f := add31 f (rot31 s[10] 21)
  let f := add31 f (rot31 s[13] 17)
  add31 f (rot31 s[15] 15)

/-- `LFSR_INIT(u)` (41_lfsr.md R73): the advance that folds `u` in last, unrotated. -/
def lfsrInit (s : Vector Cell 16) (u : Cell) : Vector Cell 16 :=
  shiftCells s (add31 (feedback s) u)

/-- `LFSR_WORK()` (41_lfsr.md R74). -/
def lfsrWork (s : Vector Cell 16) : Vector Cell 16 :=
  shiftCells s (feedback s)

end Sys2Proof.Machine
end

