-- ==== Sys2Proof/Machine/Rounds.lean ====
section
/-! DEFINITION. Machine/Rounds.lean: the two kinds of round and what INIT and NEXT make of them
(spec/44_commands.md R87, R88, and the register part of R90 and R91). -/

namespace Sys2Proof.Machine

/-- The first two parts of every round, BITREORG and then F, on the cells and F memory as the round finds them
(44_commands.md R87, R88). -/
def roundF (r : Regs) : FResult :=
  let x := bitReorg r.cells
  nonlinearF x.x0 x.x1 x.x2 r.r1 r.r2

/-- `u = W >> 1 = W[31:1]`, the F-output with its lowest bit dropped (41_lfsr.md R73, 44_commands.md R87,
90_conflicts.md C1). -/
def externalInput (w : Word) : Cell := w.extractLsb' 1 31

/-- `ROUND_INIT()` (44_commands.md R87). -/
def roundInit (r : Regs) : Regs :=
  let f := roundF r
  { cells := lfsrInit r.cells (externalInput f.w), r1 := f.r1, r2 := f.r2 }

/-- The registers after `ROUND_WORK()` (44_commands.md R88). -/
def roundWork (r : Regs) : Regs :=
  let f := roundF r
  { cells := lfsrWork r.cells, r1 := f.r1, r2 := f.r2 }

/-- `W XOR X3` of a `ROUND_WORK()` on these registers: both from the same round, `X3` from the cells before its advance
(44_commands.md R88, R91). -/
def roundWord (r : Regs) : Word :=
  (roundF r).w ^^^ (bitReorg r.cells).x3

/-- `n` initialization-mode rounds (44_commands.md R90). -/
def initRounds : Nat → Regs → Regs
  | 0, r => r
  | n + 1, r => initRounds n (roundInit r)

/-- `LOADCELLS` and the zeroing of the F memory: steps 1 and 2 of INIT (44_commands.md R90). -/
def loadedRegs (key iv : BitVec 128) : Regs :=
  { cells := loadCells key iv, r1 := 0, r2 := 0 }

/-- The registers a successful INIT leaves: load, zero, 32 rounds (44_commands.md R90; `NINIT` of 00_scope.md R6). -/
def initRegs (key iv : BitVec 128) : Regs :=
  initRounds 32 (loadedRegs key iv)

/-- The registers from which NEXT runs the round whose word it returns: after the discarded warm-up round if `WARM` is 0
(44_commands.md R91). -/
def warmedRegs (warm : Bool) (r : Regs) : Regs :=
  if warm then r else roundWork r

end Sys2Proof.Machine
end

