-- ==== Sys2Proof/Machine/Commands.lean ====
section
/-! DEFINITION. Machine/Commands.lean: the meaning of each command, one indivisible step each (spec/44_commands.md R89
to R94). Every one begins with the FAULT check (spec/60_exceptions.md R122). -/

namespace Sys2Proof.Machine

/-- `NOP` (44_commands.md R93). -/
def execNop (s : State) : Host.Outcome State Fault Refusal :=
  .next (unlessFaulted (respond statusOk none) s)

/-- Steps 1 to 4 of a successful INIT and its response (44_commands.md R90). -/
def initialize128 (key iv : BitVec 128) (s : State) : State :=
  respond statusOk none (markReady (setRegs (initRegs key iv) s))

/-- `INIT` (44_commands.md R90): the lengths are tested before any state is written. -/
def execInit (klen ivlen : Nat) (key iv : BitVec 128) (s : State) : Host.Outcome State Fault Refusal :=
  .next (unlessFaulted
    (fun t => if lengthsAccepted klen ivlen then initialize128 key iv t else raiseFault .invalidLength t) s)

/-- A NEXT on an initialized core: the warm-up round if it has not run, then the round whose word is returned
(44_commands.md R91). -/
def drawWord (s : State) : State :=
  let r := warmedRegs s.warm s.regs
  respond statusOk (some (roundWord r)) (markWarm (setRegs (roundWork r) s))

/-- `NEXT` (44_commands.md R91). -/
def execNext (s : State) : Host.Outcome State Fault Refusal :=
  .next (unlessFaulted (fun t => if t.inited then drawWord t else raiseFault .uninitialized t) s)

/-- `RSVD`, the reserved opcode (44_commands.md R94, 30_encoding.md R55). -/
def execRsvd (s : State) : Host.Outcome State Fault Refusal :=
  .next (unlessFaulted (raiseFault .illegalCommand) s)

end Sys2Proof.Machine
end

