-- ==== Sys2Proof/Machine/Dispatch.lean ====
section
/-! DEFINITION. Machine/Dispatch.lean: one arm per command of the opcode map (spec/30_encoding.md R50). -/

namespace Sys2Proof.Machine

def exec (i : Instr) (s : State) : Host.Outcome State Fault Refusal :=
  match i with
  | .nop => Sys2Proof.Machine.execNop s
  | .init klen ivlen key iv => Sys2Proof.Machine.execInit klen ivlen key iv s
  | .next => Sys2Proof.Machine.execNext s
  | .rsvd => Sys2Proof.Machine.execRsvd s

end Sys2Proof.Machine
end

