-- ==== Sys2Proof/Machine/Step.lean ====
section
/-! DEFINITION. Machine/Step.lean: one step of the machine, the core accepting and finishing one move of the host
(spec/00_scope.md R7; spec/70_reset_and_hazards.md R132). -/

namespace Sys2Proof.Machine

/-- One step: take the host's next move; a command word is decoded and executed, `rst` resets, and without a command the
core holds its state. -/
def step (s : State) : Host.Outcome State Fault Refusal :=
  match nextMove s with
  | (.idle, t) => .next (portIdle t)
  | (.rst, t) => .next (hardwareReset t)
  | (.command cw, t) => exec (decode cw) t

/-- The state in which the host's next move is to present the command word `w`: this is how a program comes to the core,
which has no program counter, no instruction memory and no fetch (10_state.md R23; log entry 2). Every command is one word (30_encoding.md R48), so `nbits` adds nothing to `w`. -/
def State.withFetchWord (s : State) (nbits w : Nat) : State :=
  let _ := nbits
  { s with host := .command (BitVec.ofNat 268 w) :: s.host }

end Sys2Proof.Machine
end

