-- ==== Sys2Proof/Machine/HostTransforms.lean ====
section
/-! DEFINITION. Machine/HostTransforms.lean: what the host does with the core (spec/49_host_transforms.md), over the
machine's own step: a host issues commands at the port and takes the words of the responses. These procedures are
software outside the hardware (spec/00_scope.md R5; log entry 9); no definition of the core calls them. -/

namespace Sys2Proof.Machine

/-- The host presents the command word of `i` and the core takes one step (49_host_transforms.md R112). The two other
outcomes of a step do not occur (`Laws.step_answers_next`); the state would then stand. -/
def issue (i : Instr) (s : State) : State :=
  match step { s with host := .command (encode i) :: s.host } with
  | .next t => t
  | .fault _ => s
  | .refused _ => s

/-- The word of the response on the port, if there is one (30_encoding.md R53). -/
def responseWord (s : State) : Option Word :=
  match s.rsp with
  | some r => r.z
  | none => none

/-- The host issues these commands one after another: the words of their responses in order, and the state after the
last (20_memory.md R43). -/
def issueAll : List Instr → State → List Word × State
  | [], s => ([], s)
  | i :: rest, s =>
    let t := issue i s
    let later := issueAll rest t
    ((responseWord t).toList ++ later.1, later.2)

/-- `NEXTN n` (30_encoding.md R59, 44_commands.md R95): it expands to `n` NEXT commands in a row, and its result is the
ordered list of their words. `NEXTN 0` issues no command. A NEXT that faults gives no word. -/
def nextN (n : Nat) (s : State) : List Word × State :=
  issueAll (List.replicate n .next) s

/-- `KS(key, iv, L)` with the core it is taken from: `INIT key, iv` followed by `NEXTN L`
(49_host_transforms.md R100, R101). -/
def keystream (key iv : BitVec 128) (l : Nat) (core : State) : List Word × State :=
  nextN l (issue (.init 16 16 key iv) core)

/-- The first 16 bytes of a byte sequence as a field, byte 0 first; missing bytes are don't-care, here 0
(30_encoding.md R51, R52). -/
def packField (bytes : List Byte) : BitVec 128 :=
  (List.range 16).foldl (fun acc i => (acc <<< 8) ||| (bytes.getD i 0).setWidth 128) 0

/-- `NewGenerator(key, iv)`: the INIT command a driver presents for a key and an IV of any length. A length of 32 or
more cannot be encoded, so "a host driver must reject it itself" (30_encoding.md R52, 49_host_transforms.md R111). -/
def newGenerator (key iv : List Byte) : Option Instr :=
  if key.length ≤ 31 ∧ iv.length ≤ 31 then
    some (.init key.length iv.length (packField key) (packField iv))
  else none

/-- `direction` (49_host_transforms.md R102). -/
inductive Direction where
  | uplink
  | downlink
deriving DecidableEq, Repr

/-- "The direction bit is 0 for uplink and 1 for downlink" (49_host_transforms.md R102). -/
def directionBit (d : Direction) : Nat :=
  match d with
  | .uplink => 0
  | .downlink => 1

/-- `ConfIV(counter, bearer, direction)` (49_host_transforms.md R103), byte 0 first. A bearer of 32 or more loses its
high bits. -/
def confIV (counter : Word) (bearer : Nat) (d : Direction) : BitVec 128 :=
  let b4 : Byte := BitVec.ofNat 8 ((bearer <<< 3) ||| (directionBit d <<< 2))
  counter ++ b4 ++ 0#24 ++ counter ++ b4 ++ 0#24

/-- `IntegIV(counter, bearer, direction)` (49_host_transforms.md R106), byte 0 first: the direction bit flips bit 7 of
byte 8 and bit 7 of byte 14 (90_conflicts.md C9). -/
def integIV (counter : Word) (bearer : Nat) (d : Direction) : BitVec 128 :=
  let b4 : Byte := BitVec.ofNat 8 (bearer <<< 3)
  let flip : Byte := BitVec.ofNat 8 (directionBit d <<< 7)
  counter ++ b4 ++ 0#24 ++ (counter ^^^ (flip ++ 0#24)) ++ b4 ++ 0#8 ++ flip ++ 0#8

/-- `ceil(a / b)`. -/
def ceilDiv (a b : Nat) : Nat := (a + b - 1) / b

/-- A word's four bytes, most significant first (00_scope.md R11). -/
def wordBytes (w : Word) : List Byte :=
  [w.extractLsb' 24 8, w.extractLsb' 16 8, w.extractLsb' 8 8, w.extractLsb' 0 8]

/-- The mask of the final produced byte: its top `bitLength mod 8` bits, or all of it (49_host_transforms.md R104). -/
def finalByteMask (bitLength : Nat) : Byte :=
  if bitLength % 8 = 0 then 0xFF#8 else 0xFF#8 <<< (8 - bitLength % 8)

/-- Byte `j` of the output of Apply from the keystream bytes `kb` (49_host_transforms.md R104). -/
def appliedByte (kb data : List Byte) (bitLength j : Nat) : Byte :=
  let nb := ceilDiv bitLength 8
  let b := data.getD j 0 ^^^ kb.getD j 0
  if nb ≤ j then 0
  else if j + 1 = nb then b &&& finalByteMask bitLength
  else b

/-- `Apply(data, bitLength)` (49_host_transforms.md R104): as many bytes as `data` has. None when `data` is shorter than
`ceil(bitLength/8)` bytes, a host duty whose breach has no behaviour (93_implementation_defined.md U15), or when the core
does not give the words (it is faulted); log entry 9. -/
def confApply (core : State) (key : BitVec 128) (counter : Word) (bearer : Nat) (d : Direction)
    (data : List Byte) (bitLength : Word) : Option (List Byte) :=
  let n := bitLength.toNat
  let l := ceilDiv n 32
  let z := (keystream key (confIV counter bearer d) l core).1
  if ceilDiv n 8 ≤ data.length ∧ z.length = l then
    some ((List.range data.length).map (appliedByte (z.flatMap wordBytes) data n))
  else none

/-- `WIN(z, i)` (49_host_transforms.md R108, 90_conflicts.md C10): bits `i` to `i + 31` of the keystream as one string of
bits, word 0 first, most significant bit first. -/
def keystreamWindow (z : List Word) (i : Nat) : Word :=
  if i % 32 = 0 then z.getD (i / 32) 0
  else (z.getD (i / 32) 0 <<< (i % 32)) ||| (z.getD (i / 32 + 1) 0 >>> (32 - i % 32))

/-- Bit `i` of a message, "most-significant-bit-first within each byte" (49_host_transforms.md R107). -/
def messageBit (message : List Byte) (i : Nat) : Bool :=
  (message.getD (i / 8) 0).getLsbD (7 - i % 8)

/-- The tag of Hash as a word, from the `l` keystream words (49_host_transforms.md R109). -/
def foldTag (z : List Word) (message : List Byte) (bitLength l : Nat) : Word :=
  let t := (List.range bitLength).foldl
    (fun t i => if messageBit message i then t ^^^ keystreamWindow z i else t) 0
  t ^^^ keystreamWindow z bitLength ^^^ z.getD (l - 1) 0

/-- `Hash(message, bitLength)` (49_host_transforms.md R107, R109): 4 bytes, most significant first. `bitLength + 64` does
not wrap (R107). None when the message is shorter than `ceil(bitLength/8)` bytes, a host duty
(93_implementation_defined.md U15), or when the core does not give the words; log entry 9. -/
def integHash (core : State) (key : BitVec 128) (counter : Word) (bearer : Nat) (d : Direction)
    (message : List Byte) (bitLength : Word) : Option (List Byte) :=
  let n := bitLength.toNat
  let l := ceilDiv (n + 64) 32
  let z := (keystream key (integIV counter bearer d) l core).1
  if ceilDiv n 8 ≤ message.length ∧ z.length = l then
    some (wordBytes (foldTag z message n l))
  else none

/-- `Verify(message, bitLength, candidateTag)` (49_host_transforms.md R110): any mismatch, of length too, is `false`, not
an error. None only where Hash is. -/
def integVerify (core : State) (key : BitVec 128) (counter : Word) (bearer : Nat) (d : Direction)
    (message : List Byte) (bitLength : Word) (candidate : List Byte) : Option Bool :=
  (integHash core key counter bearer d message bitLength).map (fun tag => tag == candidate)

end Sys2Proof.Machine
end

