-- ==== Sys2Proof/Safety.lean ====
section
/-! DEFINITION. Safety.lean: what every state of a run satisfies, and what a run that has gone well is, in the terms the
statements use. -/

namespace Sys2Proof

open Machine

/-- No cell is 0: every cell lies in [1, 2^31 − 1] (10_state.md R17, 41_lfsr.md R76). `0x7FFFFFFF` is legal. -/
abbrev CellsNonzero (r : Regs) : Prop := ∀ i : Fin 16, r.cells[i] ≠ 0

/-- An initialized core has no zero cell (10_state.md R17). -/
abbrev InitedCellsNonzero (s : State) : Prop := s.inited = true → CellsNonzero s.regs

/-- `INITED = 0, WARM = 1` does not occur (44_commands.md R98). -/
abbrev WarmOnlyIfInited (s : State) : Prop := s.warm = true → s.inited = true

/-- `FAULT` is 0, 2 or 3: "the value 1 is never stored" (10_state.md R21, R24). -/
abbrev FaultLegal (s : State) : Prop := s.fault ≠ 1

/-- The response on the port agrees with the state it left (30_encoding.md R53, 44_commands.md R98): its status is
`FAULT`, or it is `InvalidLength` and `FAULT` is 0; and only a NEXT on an initialized core carries a word. -/
abbrev ResponseAgrees (s : State) : Prop :=
  ∀ r ∈ s.rsp, s.fault = (if r.status = 1 then 0 else r.status) ∧
    (r.z.isSome = true → r.status = 0 ∧ s.inited = true ∧ s.warm = true)

/-- The invariant of the machine: it holds at reset and every step keeps it. -/
abbrev MachineInv (s : State) : Prop :=
  InitedCellsNonzero s ∧ WarmOnlyIfInited s ∧ FaultLegal s ∧ ResponseAgrees s

/-- `k` steps of the machine, stopping at a fault or refusal: a run is a finite sequence of the host's moves
(44_commands.md R99). -/
def runSteps : Nat → State → Host.Outcome State Fault Refusal
  | 0, s => .next s
  | k + 1, s =>
    match step s with
    | .next t => runSteps k t
    | .fault r => .fault r
    | .refused r => .refused r

/-- A run that has gone well ends with `FAULT = 0` (44_commands.md R99). -/
abbrev EndedWell (s : State) : Prop := s.fault = 0

end Sys2Proof
end

