-- ==== Sys2Proof/Certificates/Slice0/Obligations.lean ====
section
/-! DEFINITION. Certificates/Slice0/Obligations.lean: the statements about the core for the provers, each citing the
rules of spec/ it formalises. The core has no memory a command could store to (spec/20_memory.md R32), so no frame
speaks of one. -/

open Sys2Proof Sys2Proof.Machine

/-! ### Encoding (spec/30_encoding.md) -/

/-- R49, R50, R51, R58: decoding the word of any well-formed command gives the command back, every operand whole; the
decoder on numbers agrees. -/
def Obligations.DecodeOfEncodeIsIdentity : Prop :=
  ∀ i : Instr, WellFormed i = true →
    decode (encode i) = i ∧ decodeTableWord 272 (encode i).toNat = some i

/-- R54, R55, R58: every command word decodes to a well-formed command; encoding it again gives the same word for an
INIT, and for the other three the same opcode with the don't-care bits zero. -/
def Obligations.EncodeOfDecodeKeepsTheWord : Prop :=
  ∀ cw : CommandWord, WellFormed (decode cw) = true ∧
    encode (decode cw) = if fieldOp cw = 0b01#2 then cw else fieldOp cw ++ (0 : BitVec 266)

/-- R50, R62: the match and mask of the opcode map. The two top bits alone select the command; an INIT carries the four
fields of R49; every word is one of the four. -/
def Obligations.TopTwoBitsSelectTheCommand : Prop :=
  ∀ cw : CommandWord,
    let masked := cw &&& (0b11#2 ++ (0 : BitVec 266))
    (masked = 0b00#2 ++ (0 : BitVec 266) → decode cw = .nop) ∧
    (masked = 0b01#2 ++ (0 : BitVec 266) → decode cw =
      .init (cw.extractLsb' 261 5).toNat (cw.extractLsb' 256 5).toNat (cw.extractLsb' 128 128) (cw.extractLsb' 0 128)) ∧
    (masked = 0b10#2 ++ (0 : BitVec 266) → decode cw = .next) ∧
    (masked = 0b11#2 ++ (0 : BitVec 266) → decode cw = .rsvd) ∧
    (masked = 0b00#2 ++ (0 : BitVec 266) ∨ masked = 0b01#2 ++ (0 : BitVec 266) ∨
      masked = 0b10#2 ++ (0 : BitVec 266) ∨ masked = 0b11#2 ++ (0 : BitVec 266))

/-- R51: byte `i` of the key is `CW[255 − 8i : 248 − 8i]`, byte `i` of the IV is `CW[127 − 8i : 120 − 8i]`. -/
def Obligations.KeyAndIvBytesOfTheCommandWord : Prop :=
  ∀ (cw : CommandWord) (i : Nat), i < 16 →
    fieldByte (fieldKey cw) i = cw.extractLsb' (248 - 8 * i) 8 ∧
    fieldByte (fieldIv cw) i = cw.extractLsb' (120 - 8 * i) 8

/-- R54: the don't-care bits of NOP, NEXT and RSVD do not change what a word decodes to, and the key and IV of an INIT
that is rejected for its lengths do not change what it does. -/
def Obligations.DontCareBitsChangeNothing : Prop :=
  (∀ cw cw' : CommandWord, fieldOp cw = fieldOp cw' → fieldOp cw ≠ 0b01#2 → decode cw = decode cw') ∧
  (∀ (klen ivlen : Nat) (key iv key' iv' : BitVec 128) (s : State), ¬(klen = 16 ∧ ivlen = 16) →
    exec (.init klen ivlen key iv) s = exec (.init klen ivlen key' iv') s)

/-- R60: the worked encodings, read by the decoder and written by the encoder. -/
def Obligations.WorkedEncodingsDecode : Prop :=
  encode .nop = 0x0000000000000000000000000000000000000000000000000000000000000000000#268 ∧
  encode .next = 0x8000000000000000000000000000000000000000000000000000000000000000000#268 ∧
  encode (.init 16 16 0 0) = 0x6100000000000000000000000000000000000000000000000000000000000000000#268 ∧
  encode (.init 16 16 (BitVec.allOnes 128) (BitVec.allOnes 128)) =
    0x610ffffffffffffffffffffffffffffffffffffffffffffffffffffffffffffffff#268 ∧
  encode (.init 16 16 0x3d4c4be96a82fdaeb58f641db17b455b#128 0x84319aa8de6915ca1f6bda6bfbd8c766#128) =
    0x6103d4c4be96a82fdaeb58f641db17b455b84319aa8de6915ca1f6bda6bfbd8c766#268 ∧
  encode (.init 15 16 0 0) = 0x5F00000000000000000000000000000000000000000000000000000000000000000#268 ∧
  encode .rsvd = 0xC000000000000000000000000000000000000000000000000000000000000000000#268 ∧
  decode 0x0000000000000000000000000000000000000000000000000000000000000000000#268 = .nop ∧
  decode 0x8000000000000000000000000000000000000000000000000000000000000000000#268 = .next ∧
  decode 0x6100000000000000000000000000000000000000000000000000000000000000000#268 = .init 16 16 0 0 ∧
  decode 0x610ffffffffffffffffffffffffffffffffffffffffffffffffffffffffffffffff#268 =
    .init 16 16 (BitVec.allOnes 128) (BitVec.allOnes 128) ∧
  decode 0x6103d4c4be96a82fdaeb58f641db17b455b84319aa8de6915ca1f6bda6bfbd8c766#268 =
    .init 16 16 0x3d4c4be96a82fdaeb58f641db17b455b#128 0x84319aa8de6915ca1f6bda6bfbd8c766#128 ∧
  decode 0x5F00000000000000000000000000000000000000000000000000000000000000000#268 = .init 15 16 0 0 ∧
  decode 0xC000000000000000000000000000000000000000000000000000000000000000000#268 = .rsvd

/-! ### The step and reset (spec/00_scope.md R7, spec/70_reset_and_hazards.md) -/

/-- R7, R23, R43, R89: when the host's next move is to present a command word, one step is exec of the decoded command
on the state with that move taken from the host's schedule; so for the word of a well-formed command it is exec of that
command. The schedule is the model's own field (log entry 2). -/
def Obligations.StepRunsThePresentedCommand : Prop :=
  (∀ (s : State) (cw : CommandWord) (rest : List HostMove), s.host = .command cw :: rest →
    step s = exec (decode cw) { s with host := rest }) ∧
  (∀ (s : State) (i : Instr) (rest : List HostMove), WellFormed i = true → s.host = .command (encode i) :: rest →
    step s = exec i { s with host := rest })

/-- R130, and the model's own choice of log entries 2 and 3: with no command presented the core holds its state and the
response port is empty. -/
def Obligations.StepWithoutCommandHoldsTheState : Prop :=
  (∀ s : State, s.host = [] → step s = .next { s with rsp := none }) ∧
  (∀ (s : State) (rest : List HostMove), s.host = .idle :: rest →
    step s = .next { s with rsp := none, host := rest })

/-- R131, R132: `rst` gives `INITED = 0`, `WARM = 0`, `FAULT = 0` from every state, and no response. Nothing is said of
the data registers, which hold no value (log entry 1). -/
def Obligations.ResetMoveClearsTheFlags : Prop :=
  ∀ (s : State) (rest : List HostMove), s.host = .rst :: rest →
    ∃ t, step s = .next t ∧ t.inited = false ∧ t.warm = false ∧ t.fault = 0 ∧ t.rsp = none ∧ t.host = rest

/-- R27, R131: the flags of the reset state. -/
def Obligations.ResetStateFlags : Prop :=
  State.reset.inited = false ∧ State.reset.warm = false ∧ State.reset.fault = 0

/-- R123, R134: `rst` and then an INIT bring every core, a faulted one too, to the ready state. -/
def Obligations.ResetThenInitLeavesAnyFault : Prop :=
  ∀ (s : State) (key iv : BitVec 128) (rest : List HostMove),
    s.host = .rst :: .command (encode (.init 16 16 key iv)) :: rest →
    ∃ t, runSteps 2 s = .next t ∧ t.regs = initRegs key iv ∧ t.inited = true ∧ t.warm = false ∧
      t.fault = 0 ∧ t.rsp = some { status := 0, z := none } ∧ t.host = rest

/-- R142: every step answers a next state; no command can hang. -/
def Obligations.EveryStepAnswersNextState : Prop :=
  ∀ s : State, ∃ t, step s = .next t

/-! ### Invariants (spec/10_state.md R17, R21; spec/41_lfsr.md R76; spec/44_commands.md R98) -/

/-- The invariant holds at reset. -/
def Obligations.ResetMeetsTheInvariant : Prop :=
  MachineInv State.reset

/-- R17, R21, R53, R76, R98: every step keeps the invariant: an initialized core has no zero cell, `WARM` only with
`INITED`, `FAULT` never 1, and the response on the port agrees with the state. -/
def Obligations.EveryStepKeepsTheInvariant : Prop :=
  ∀ s t : State, MachineInv s → step s = .next t → MachineInv t

/-- R76: after LOADCELLS every cell is in [1, 2^31 − 1], and every LFSR_INIT, whatever its `u`, and every LFSR_WORK
keeps it so. -/
def Obligations.CellsNeverBecomeZero : Prop :=
  (∀ (key iv : BitVec 128) (i : Fin 16), 1 ≤ (loadCells key iv)[i].toNat ∧ (loadCells key iv)[i].toNat ≤ 2 ^ 31 - 1) ∧
  (∀ s : Vector Cell 16, (∀ i : Fin 16, 1 ≤ s[i].toNat) →
    (∀ (u : Cell) (i : Fin 16), 1 ≤ (lfsrInit s u)[i].toNat ∧ (lfsrInit s u)[i].toNat ≤ 2 ^ 31 - 1) ∧
    (∀ i : Fin 16, 1 ≤ (lfsrWork s)[i].toNat ∧ (lfsrWork s)[i].toNat ≤ 2 ^ 31 - 1))

/-- R19, R97: without `rst`, a step never clears `INITED`, and it sets it only by a successful INIT. -/
def Obligations.OnlyInitSetsInited : Prop :=
  ∀ (s t : State) (m : HostMove) (rest : List HostMove), s.host = m :: rest → m ≠ .rst → step s = .next t →
    (s.inited = true → t.inited = true) ∧
    (s.inited = false → t.inited = true →
      s.fault = 0 ∧ ∃ cw key iv, m = .command cw ∧ decode cw = .init 16 16 key iv)

/-- R21, R122, R123: along any run in which the host does not assert `rst`, a fatal fault stays, and the data registers
and the other flags keep their values. -/
def Obligations.FatalFaultHoldsUntilReset : Prop :=
  ∀ (k : Nat) (s t : State), runSteps k s = .next t → HostMove.rst ∉ s.host.take k → s.fault ≠ 0 →
    t.fault = s.fault ∧ t.regs = s.regs ∧ t.inited = s.inited ∧ t.warm = s.warm

/-! ### The commands (spec/44_commands.md, spec/60_exceptions.md) -/

/-- R122: with `FAULT != 0` every command does nothing and responds `(FAULT, 0, none)`. -/
def Obligations.FaultedCoreRefusesEveryCommand : Prop :=
  ∀ (i : Instr) (s : State), s.fault ≠ 0 →
    exec i s = .next { s with rsp := some { status := s.fault, z := none } }

/-- R93: NOP responds `(OK, 0, none)` and writes nothing; on a faulted core it responds with the stored code. -/
def Obligations.NopOnlyResponds : Prop :=
  ∀ s : State,
    (s.fault = 0 → exec .nop s = .next { s with rsp := some { status := 0, z := none } }) ∧
    (s.fault ≠ 0 → exec .nop s = .next { s with rsp := some { status := s.fault, z := none } })

/-- R90: INIT. With `FAULT = 0` and both lengths 16 it loads the cells, zeroes `R1` and `R2`, runs 32 ROUND_INIT, sets
`INITED` and clears `WARM`, whatever the state before; with a wrong length it writes nothing and responds status 1; on a
faulted core it responds with the stored code. -/
def Obligations.InitLoadsAndRunsThirtyTwoRounds : Prop :=
  ∀ (s : State) (klen ivlen : Nat) (key iv : BitVec 128),
    (s.fault = 0 → klen = 16 → ivlen = 16 → exec (.init klen ivlen key iv) s = .next { s with
      regs := roundInit^[32] { cells := loadCells key iv, r1 := 0, r2 := 0 }
      inited := true
      warm := false
      rsp := some { status := 0, z := none } }) ∧
    (s.fault = 0 → (klen ≠ 16 ∨ ivlen ≠ 16) →
      exec (.init klen ivlen key iv) s = .next { s with rsp := some { status := 1, z := none } }) ∧
    (s.fault ≠ 0 → exec (.init klen ivlen key iv) s = .next { s with rsp := some { status := s.fault, z := none } })

/-- R91: NEXT. With `FAULT = 0` and `INITED = 1` it runs two ROUND_WORK if `WARM` is 0, one if it is 1, sets `WARM`, and
responds the word `W XOR X3` of the last one; with `INITED = 0` it takes the fatal fault Uninitialized; on a faulted
core it responds with the stored code. -/
def Obligations.NextWarmsUpOnceAndDrawsOneWord : Prop :=
  ∀ s : State,
    (s.fault = 0 → s.inited = true → s.warm = false → exec .next s = .next { s with
      regs := roundWork (roundWork s.regs)
      warm := true
      rsp := some { status := 0, z := some ((roundF (roundWork s.regs)).w ^^^ (bitReorg (roundWork s.regs).cells).x3) } }) ∧
    (s.fault = 0 → s.inited = true → s.warm = true → exec .next s = .next { s with
      regs := roundWork s.regs
      rsp := some { status := 0, z := some ((roundF s.regs).w ^^^ (bitReorg s.regs.cells).x3) } }) ∧
    (s.fault = 0 → s.inited = false → exec .next s = .next { s with
      fault := 2
      rsp := some { status := 2, z := none } }) ∧
    (s.fault ≠ 0 → exec .next s = .next { s with rsp := some { status := s.fault, z := none } })

/-- R94, R116: the reserved opcode always takes the fatal fault IllegalCommand, `FAULT <- 3`, unless the core is faulted
already, and then it responds with the stored code. -/
def Obligations.ReservedOpcodeIsFatal : Prop :=
  ∀ s : State,
    (s.fault = 0 → exec .rsvd s = .next { s with fault := 3, rsp := some { status := 3, z := none } }) ∧
    (s.fault ≠ 0 → exec .rsvd s = .next { s with rsp := some { status := s.fault, z := none } })

/-- R117, R121: `raise X`. A fatal fault writes `FAULT <- c` and nothing else, InvalidLength writes no state, and the
response is `(code of X, 0, none)`. -/
def Obligations.RaiseWritesOnlyFault : Prop :=
  ∀ s : State,
    raiseFault .invalidLength s = { s with rsp := some { status := 1, z := none } } ∧
    raiseFault .uninitialized s = { s with fault := 2, rsp := some { status := 2, z := none } } ∧
    raiseFault .illegalCommand s = { s with fault := 3, rsp := some { status := 3, z := none } }

/-- R114: after InvalidLength nothing has changed and the next command is executed normally: it does what it would have
done had the rejected INIT not been issued. -/
def Obligations.RejectedInitLeavesTheNextCommandAsItWas : Prop :=
  ∀ (s t : State) (klen ivlen : Nat) (key iv : BitVec 128) (i : Instr), s.fault = 0 → (klen ≠ 16 ∨ ivlen ≠ 16) →
    exec (.init klen ivlen key iv) s = .next t →
    t = { s with rsp := some { status := 1, z := none } } ∧ exec i t = exec i s

/-- R53: every command gives one response; its status is that of the table, and it carries a word exactly when the
command is a NEXT on an initialized core without fault. -/
def Obligations.EveryCommandRespondsByTheTable : Prop :=
  ∀ (i : Instr) (s t : State), exec i s = .next t →
    ∃ r, t.rsp = some r ∧
      r.status = (if s.fault ≠ 0 then s.fault else
        match i with
        | .nop => 0
        | .init klen ivlen _ _ => if klen = 16 ∧ ivlen = 16 then 0 else 1
        | .next => if s.inited = true then 0 else 2
        | .rsvd => 3) ∧
      r.z = (if s.fault = 0 ∧ i = .next ∧ s.inited = true then
          (if s.warm = true then some ((roundF s.regs).w ^^^ (bitReorg s.regs.cells).x3)
            else some ((roundF (roundWork s.regs)).w ^^^ (bitReorg (roundWork s.regs).cells).x3))
        else none)

/-- Frame (R90, R91, R93, R94, R117, R121). No command touches the host's schedule. Only a successful INIT writes
`INITED`. NOP, RSVD and an INIT with a wrong length leave the data registers and `WARM`; so does a NEXT on an
uninitialized core. NOP, every INIT, and a NEXT on an initialized core leave `FAULT`. There is no other state and no
memory. -/
def Obligations.CommandFrames : Prop :=
  ∀ (i : Instr) (s t : State), exec i s = .next t →
    t.host = s.host ∧ t.resets = s.resets ∧
    ((∀ key iv, i ≠ .init 16 16 key iv) → t.inited = s.inited) ∧
    ((∀ key iv, i ≠ .init 16 16 key iv) → (i = .next → s.inited = false) → t.regs = s.regs ∧ t.warm = s.warm) ∧
    (i ≠ .rsvd → (i = .next → s.inited = true) → t.fault = s.fault)

/-- R29: the response of every command but NEXT is the same whatever the data registers hold. -/
def Obligations.OnlyNextShowsTheRegisters : Prop :=
  ∀ (i : Instr) (s t t' : State) (r : Regs), i ≠ .next → exec i s = .next t → exec i { s with regs := r } = .next t' →
    t.rsp = t'.rsp

/-- R90: the state INIT leaves is a function of key and IV alone. -/
def Obligations.InitForgetsTheStateBefore : Prop :=
  ∀ (s s' : State) (key iv : BitVec 128), s.fault = 0 → s'.fault = 0 →
    ∃ t t', exec (.init 16 16 key iv) s = .next t ∧ exec (.init 16 16 key iv) s' = .next t' ∧
      t.regs = t'.regs ∧ t.inited = t'.inited ∧ t.warm = t'.warm ∧ t.fault = t'.fault ∧ t.rsp = t'.rsp

/-! ### Arithmetic (spec/40_arith31.md) -/

/-- R63: ADD31 is the low 31 bits of the sum plus its bit 31; it is congruent to the sum modulo `P = 2^31 − 1`; it is 0
only for 0 and 0; a sum of exactly `P` stays `P`; 0 is neutral; with both operands in [1, P] it is in [1, P]; it is
commutative always, and associative on [1, P]. -/
def Obligations.Add31IsTheUnreducedModularSum : Prop :=
  (∀ a b : Cell,
    (add31 a b).toNat = (a.toNat + b.toNat) % 2 ^ 31 + (a.toNat + b.toNat) / 2 ^ 31 ∧
    (add31 a b).toNat % (2 ^ 31 - 1) = (a.toNat + b.toNat) % (2 ^ 31 - 1) ∧
    (add31 a b = 0 ↔ a = 0 ∧ b = 0) ∧
    (a.toNat + b.toNat = 2 ^ 31 - 1 → add31 a b = 0x7FFFFFFF#31) ∧
    add31 a 0 = a ∧
    (a ≠ 0 → b ≠ 0 → 1 ≤ (add31 a b).toNat ∧ (add31 a b).toNat ≤ 2 ^ 31 - 1) ∧
    add31 a b = add31 b a) ∧
  (∀ a b c : Cell, a ≠ 0 → b ≠ 0 → c ≠ 0 → add31 (add31 a b) c = add31 a (add31 b c))

/-- R64: for `1 <= k <= 30`, ROT31 moves the low `31 − k` bits up by `k` and brings the top `k` bits round to the bottom;
it is multiplication by `2^k` modulo `P` on [0, P − 1], keeps `P`, and maps non-zero to non-zero. -/
def Obligations.Rot31MultipliesByAPowerOfTwo : Prop :=
  ∀ (x : Cell) (k : Nat), 1 ≤ k → k ≤ 30 →
    (rot31 x k).toNat = (x.toNat % 2 ^ (31 - k)) * 2 ^ k + x.toNat / 2 ^ (31 - k) ∧
    (x ≠ 0 → rot31 x k ≠ 0) ∧
    (x.toNat < 2 ^ 31 - 1 → (rot31 x k).toNat = (x.toNat * 2 ^ k) % (2 ^ 31 - 1)) ∧
    (x = 0x7FFFFFFF#31 → rot31 x k = 0x7FFFFFFF#31)

/-- R65: ROT32 moves the low `32 − k` bits up by `k` and brings the top `k` bits round to the bottom. -/
def Obligations.Rot32IsALeftRotation : Prop :=
  ∀ (x : Word) (k : Nat), 1 ≤ k → k ≤ 31 →
    (rot32 x k).toNat = (x.toNat % 2 ^ (32 - k)) * 2 ^ k + x.toNat / 2 ^ (32 - k)

/-! ### The shift register (spec/41_lfsr.md) -/

/-- R70: cell `i` is `(key_i << 23) OR (D[i] << 8) OR iv_i`, for every key and IV. -/
def Obligations.LoadedCellPacksKeyConstantAndIv : Prop :=
  ∀ (key iv : BitVec 128) (i : Fin 16),
    (loadCells key iv)[i] =
      ((fieldByte key i).setWidth 31 <<< 23) ||| ((readD i).setWidth 31 <<< 8) ||| (fieldByte iv i).setWidth 31

/-- R71: SHIFT puts the old `S[i+1]` into `S[i]` and `f` into `S[15]`. -/
def Obligations.ShiftMovesEveryCellDown : Prop :=
  ∀ (s : Vector Cell 16) (f : Cell),
    (∀ i : Fin 15, (shiftCells s f)[i.val] = s[i.val + 1]) ∧ (shiftCells s f)[15] = f

/-- R72: FEEDBACK folds the six terms in order; it is the formula modulo `P`, taken in [1, P] when all five cells are in
[1, P]. -/
def Obligations.FeedbackFoldsSixTerms : Prop :=
  ∀ s : Vector Cell 16,
    feedback s = add31 (add31 (add31 (add31 (add31 s[0] (rot31 s[0] 8)) (rot31 s[4] 20)) (rot31 s[10] 21))
      (rot31 s[13] 17)) (rot31 s[15] 15) ∧
    (feedback s).toNat % (2 ^ 31 - 1) =
      (2 ^ 15 * s[15].toNat + 2 ^ 17 * s[13].toNat + 2 ^ 21 * s[10].toNat + 2 ^ 20 * s[4].toNat +
        (1 + 2 ^ 8) * s[0].toNat) % (2 ^ 31 - 1) ∧
    (s[0] ≠ 0 → s[4] ≠ 0 → s[10] ≠ 0 → s[13] ≠ 0 → s[15] ≠ 0 →
      1 ≤ (feedback s).toNat ∧ (feedback s).toNat ≤ 2 ^ 31 - 1)

/-- R75: the new cell of a work-mode advance is the linear recurrence modulo `P`, and initialization mode adds `u`. -/
def Obligations.AdvanceIsTheModularRecurrence : Prop :=
  ∀ (s : Vector Cell 16) (u : Cell),
    (lfsrWork s)[15].toNat % (2 ^ 31 - 1) =
      (2 ^ 15 * s[15].toNat + 2 ^ 17 * s[13].toNat + 2 ^ 21 * s[10].toNat + 2 ^ 20 * s[4].toNat +
        (1 + 2 ^ 8) * s[0].toNat) % (2 ^ 31 - 1) ∧
    (lfsrInit s u)[15].toNat % (2 ^ 31 - 1) =
      (2 ^ 15 * s[15].toNat + 2 ^ 17 * s[13].toNat + 2 ^ 21 * s[10].toNat + 2 ^ 20 * s[4].toNat +
        (1 + 2 ^ 8) * s[0].toNat + u.toNat) % (2 ^ 31 - 1)

/-- R74: `LFSR_WORK()` and `LFSR_INIT(0)` write the same values. -/
def Obligations.WorkAdvanceIsInitAdvanceWithZero : Prop :=
  ∀ s : Vector Cell 16, lfsrWork s = lfsrInit s 0

/-! ### Bit reorganization and the nonlinear function (spec/42_bitreorg.md, spec/43_f_function.md) -/

/-- R77: the four words by shifts and masks on 32-bit values. -/
def Obligations.BitReorgByShifts : Prop :=
  ∀ s : Vector Cell 16,
    (bitReorg s).x0 = ((s[15].setWidth 32 >>> 15) <<< 16) ||| (s[14].setWidth 32 &&& 0xFFFF#32) ∧
    (bitReorg s).x1 = ((s[11].setWidth 32 &&& 0xFFFF#32) <<< 16) ||| (s[9].setWidth 32 >>> 15) ∧
    (bitReorg s).x2 = ((s[7].setWidth 32 &&& 0xFFFF#32) <<< 16) ||| (s[5].setWidth 32 >>> 15) ∧
    (bitReorg s).x3 = ((s[2].setWidth 32 &&& 0xFFFF#32) <<< 16) ||| (s[0].setWidth 32 >>> 15)

/-- R80: `L1` XORs the input with four of its left rotations; it is linear over XOR, keeps the word of all ones, and is
a bijection on 32-bit words. -/
def Obligations.L1IsALinearBijection : Prop :=
  (∀ x : Word, diffuse1 x =
    x ^^^ x.rotateLeft 2 ^^^ x.rotateLeft 10 ^^^ x.rotateLeft 18 ^^^ x.rotateLeft 24) ∧
  diffuse1 0xFFFFFFFF#32 = 0xFFFFFFFF#32 ∧
  (∀ a b : Word, diffuse1 (a ^^^ b) = diffuse1 a ^^^ diffuse1 b) ∧ Function.Bijective diffuse1

/-- R81: `L2` XORs the input with four of its left rotations; it is linear over XOR, keeps the word of all ones, and is
a bijection on 32-bit words. -/
def Obligations.L2IsALinearBijection : Prop :=
  (∀ x : Word, diffuse2 x =
    x ^^^ x.rotateLeft 8 ^^^ x.rotateLeft 14 ^^^ x.rotateLeft 22 ^^^ x.rotateLeft 30) ∧
  diffuse2 0xFFFFFFFF#32 = 0xFFFFFFFF#32 ∧
  (∀ a b : Word, diffuse2 (a ^^^ b) = diffuse2 a ^^^ diffuse2 b) ∧ Function.Bijective diffuse2

/-- R37: every byte value occurs exactly once in each substitution table; where the values 0 and `0xFF` stand. -/
def Obligations.SubstitutionTablesArePermutations : Prop :=
  (∀ v : Byte, ∃! a : Byte, readS0 a = v) ∧ (∀ v : Byte, ∃! a : Byte, readS1 a = v) ∧
  readS0 0x06 = 0x00#8 ∧ readS1 0x17 = 0x00#8 ∧ readS0 0x69 = 0xFF#8 ∧ readS1 0xCE = 0xFF#8

/-- R82: SBOX32 substitutes each byte through its own table, `S0`, `S1`, `S0`, `S1` from the most significant byte down,
and it is a bijection on 32-bit words. -/
def Obligations.SboxIsABytewiseBijection : Prop :=
  (∀ x : Word,
    (sbox32 x).extractLsb' 24 8 = readS0 (x.extractLsb' 24 8) ∧
    (sbox32 x).extractLsb' 16 8 = readS1 (x.extractLsb' 16 8) ∧
    (sbox32 x).extractLsb' 8 8 = readS0 (x.extractLsb' 8 8) ∧
    (sbox32 x).extractLsb' 0 8 = readS1 (x.extractLsb' 0 8)) ∧
  Function.Bijective sbox32

/-- R84: the formulas of F on the old `R1`, `R2`, with the crossing written by shifts. -/
def Obligations.FByTheFormulas : Prop :=
  ∀ x0 x1 x2 r1 r2 : Word,
    (nonlinearF x0 x1 x2 r1 r2).w = (x0 ^^^ r1) + r2 ∧
    (nonlinearF x0 x1 x2 r1 r2).r1 = sbox32 (diffuse1 (((r1 + x1) <<< 16) ||| ((r2 ^^^ x2) >>> 16))) ∧
    (nonlinearF x0 x1 x2 r1 r2).r2 = sbox32 (diffuse2 (((r2 ^^^ x2) <<< 16) ||| ((r1 + x1) >>> 16)))

/-- R87, R88: the two kinds of round. Both read the cells as the round finds them; initialization mode feeds
`u = W >> 1` into the new cell, work mode feeds nothing and gives `W` and `X3`, whose XOR is the word. -/
def Obligations.RoundsFeedTheRegister : Prop :=
  ∀ r : Regs,
    let x := bitReorg r.cells
    let f := nonlinearF x.x0 x.x1 x.x2 r.r1 r.r2
    roundInit r = { cells := lfsrInit r.cells ((f.w >>> 1).setWidth 31), r1 := f.r1, r2 := f.r2 } ∧
    roundWork r = { cells := lfsrWork r.cells, r1 := f.r1, r2 := f.r2 } ∧
    roundF r = f ∧ roundWord r = f.w ^^^ x.x3

/-! ### The keystream and its host (spec/44_commands.md R92, R95, spec/49_host_transforms.md) -/

/-- R95, R59: `NEXTN 0` issues nothing; `NEXTN a` and then `NEXTN b` is `NEXTN (a + b)`; on an uninitialized core the
result is no words. -/
def Obligations.NextNConcatenates : Prop :=
  (∀ s : State, nextN 0 s = ([], s)) ∧
  (∀ (a b : Nat) (s : State),
    nextN (a + b) s = ((nextN a s).1 ++ (nextN b (nextN a s).2).1, (nextN b (nextN a s).2).2)) ∧
  (∀ (n : Nat) (s : State), s.fault = 0 → s.inited = false → (nextN n s).1 = [])

/-- R91, R92: an initialized core gives as many words as it is asked for and does not fault. -/
def Obligations.InitializedCoreAnswersEveryDraw : Prop :=
  ∀ (n : Nat) (s : State), s.fault = 0 → s.inited = true →
    (nextN n s).1.length = n ∧ (nextN n s).2.fault = 0 ∧ (nextN n s).2.inited = true

/-- R92, R43: the keystream is a function of key and IV alone: two cores without fault, in whatever state, give the same
words after the same INIT. -/
def Obligations.KeystreamDependsOnKeyAndIvOnly : Prop :=
  ∀ (s s' : State) (key iv : BitVec 128) (l : Nat), s.fault = 0 → s'.fault = 0 →
    (keystream key iv l s).1 = (keystream key iv l s').1 ∧ (keystream key iv l s).1.length = l

/-- R90, R91, R92: the keystream in closed form. After a successful INIT the first work-mode round is discarded, once, and
word `i` is `W XOR X3` of the round after it and `i` more. -/
def Obligations.KeystreamIsTheRoundsAfterTheWarmUp : Prop :=
  ∀ (s : State) (key iv : BitVec 128) (l : Nat), s.fault = 0 →
    (keystream key iv l s).1 =
      (List.range l).map (fun i => roundWord (roundWork^[i + 1] (initRegs key iv))) ∧
    (keystream key iv l s).2.regs =
      if l = 0 then initRegs key iv else roundWork^[l + 1] (initRegs key iv)

/-- R92: NOP and rejected INIT commands between the draws change nothing: the words are those of the NEXT commands
alone. -/
def Obligations.SilentCommandsKeepTheKeystream : Prop :=
  ∀ (commands : List Instr) (s : State), s.fault = 0 → s.inited = true →
    (∀ i ∈ commands, i = .nop ∨ i = .next ∨
      ∃ klen ivlen key iv, i = .init klen ivlen key iv ∧ klen ≤ 31 ∧ ivlen ≤ 31 ∧ (klen ≠ 16 ∨ ivlen ≠ 16)) →
    (issueAll commands s).1 = (nextN (commands.count .next) s).1

/-- R103, R106: the two IV layouts, byte by byte. -/
def Obligations.IvLayoutsByteByByte : Prop :=
  ∀ (counter : Word) (bearer : Nat) (d : Direction),
    let c := confIV counter bearer d
    let g := integIV counter bearer d
    let dir := match d with | .uplink => 0 | .downlink => 1
    (∀ i, i < 4 → fieldByte c i = counter.extractLsb' (24 - 8 * i) 8 ∧ fieldByte g i = counter.extractLsb' (24 - 8 * i) 8) ∧
    fieldByte c 4 = BitVec.ofNat 8 (((bearer <<< 3) ||| (dir <<< 2)) &&& 0xFF) ∧
    fieldByte g 4 = BitVec.ofNat 8 ((bearer <<< 3) &&& 0xFF) ∧
    (∀ i, 5 ≤ i → i < 8 → fieldByte c i = 0 ∧ fieldByte g i = 0) ∧
    (∀ i, 8 ≤ i → i < 16 → fieldByte c i = fieldByte c (i - 8)) ∧
    (∀ i, 8 ≤ i → i < 16 → fieldByte g i =
      if i = 8 ∨ i = 14 then fieldByte g (i - 8) ^^^ BitVec.ofNat 8 (dir <<< 7) else fieldByte g (i - 8))

/-- R108: the window at bit offset `i` is bits `i` to `i + 31` of the keystream seen as one bit string, word 0 first, most
significant bit first. -/
def Obligations.WindowIsThirtyTwoBitsOfTheStream : Prop :=
  ∀ (z : List Word) (i j : Nat), i + 32 ≤ 32 * z.length → j < 32 →
    (keystreamWindow z i).getLsbD (31 - j) = (z.getD ((i + j) / 32) 0).getLsbD (31 - (i + j) % 32)

/-- R104: on a core without fault and with data of at least `ceil(n/8)` bytes, Apply answers as many bytes as the data
has; its first `n` bits are the data's XORed with the keystream's, and every later bit is 0. -/
def Obligations.ApplyXorsTheFirstBitsAndZeroesTheRest : Prop :=
  ∀ (core : State) (key : BitVec 128) (counter : Word) (bearer : Nat) (d : Direction) (data : List Byte)
    (bitLength : Word), core.fault = 0 → (bitLength.toNat + 7) / 8 ≤ data.length →
    ∃ out, confApply core key counter bearer d data bitLength = some out ∧
    out.length = data.length ∧
    (∀ i, i < bitLength.toNat → messageBit out i = Bool.xor (messageBit data i)
      ((((keystream key (confIV counter bearer d) ((bitLength.toNat + 31) / 32) core).1).getD (i / 32) 0).getLsbD
        (31 - i % 32))) ∧
    (∀ i, bitLength.toNat ≤ i → messageBit out i = false)

/-- R105: applying twice restores the first `n` bits, and the whole of data that is zero beyond bit `n − 1`. The second
application may run on any other core that has no fault. -/
def Obligations.ApplyTwiceRestoresTheData : Prop :=
  ∀ (core core' : State) (key : BitVec 128) (counter : Word) (bearer : Nat) (d : Direction) (data out : List Byte)
    (bitLength : Word), core.fault = 0 → core'.fault = 0 →
    confApply core key counter bearer d data bitLength = some out →
    ∃ back, confApply core' key counter bearer d out bitLength = some back ∧
      (∀ i, i < bitLength.toNat → messageBit back i = messageBit data i) ∧
      ((∀ i, bitLength.toNat ≤ i → messageBit data i = false) → back = data)

/-- R107, R109: on a core without fault, Hash of a message that holds `n` bits answers a tag of 4 bytes. -/
def Obligations.HashAnswersFourBytes : Prop :=
  ∀ (core : State) (key : BitVec 128) (counter : Word) (bearer : Nat) (d : Direction) (message : List Byte)
    (bitLength : Word), core.fault = 0 → bitLength.toNat ≤ 8 * message.length →
    ∃ tag, integHash core key counter bearer d message bitLength = some tag ∧ tag.length = 4

/-- R110, R101: Verify accepts the tag Hash gives, on any other core without fault too, and no other candidate, of
whatever length. -/
def Obligations.VerifyAcceptsExactlyTheTag : Prop :=
  ∀ (core core' : State) (key : BitVec 128) (counter : Word) (bearer : Nat) (d : Direction)
    (message tag candidate : List Byte) (bitLength : Word), core.fault = 0 → core'.fault = 0 →
    integHash core key counter bearer d message bitLength = some tag →
    integVerify core' key counter bearer d message bitLength candidate = some (decide (candidate = tag))

/-- R52, R111: the INIT a driver presents carries the lengths and the bytes of a key and an IV of at most 31 bytes; a
longer one it rejects itself. -/
def Obligations.DriverCarriesLengthsAndBytes : Prop :=
  ∀ key iv : List Byte,
    (key.length ≤ 31 → iv.length ≤ 31 → ∃ k v, newGenerator key iv = some (.init key.length iv.length k v) ∧
      (∀ i, i < 16 → i < key.length → fieldByte k i = key.getD i 0) ∧
      (∀ i, i < 16 → i < iv.length → fieldByte v i = iv.getD i 0)) ∧
    ((32 ≤ key.length ∨ 32 ≤ iv.length) → newGenerator key iv = none)

/-- The document's keystream vector (95_test_vectors.md V1) and the third word the rules give: the all-zero key and IV on
the core after reset. -/
def Obligations.ZeroKeyKeystreamVector : Prop :=
  (keystream 0 0 3 State.reset).1 = [0x27BEDE74#32, 0x018082DA#32, 0x87D4E5B6#32]

/-- The document's integrity vector (95_test_vectors.md V3; R109 example). -/
def Obligations.IntegrityVector : Prop :=
  integHash State.reset 0 0 0 .uplink [0, 0, 0, 0] 1 = some [0xC8#8, 0xA9#8, 0x59#8, 0x5E#8]
end

