-- ==== Sys2Proof/Laws/Arith31.lean ====
section
/-! SUPPORT. Laws/Arith31.lean: the arithmetic primitives as functions on numbers and as core rotations
(spec/40_arith31.md). -/

namespace Sys2Proof.Laws

open Machine

/-- ADD31 as a number: the sum, folded once when it reaches 2^31 (40_arith31.md R63). -/
theorem add31_toNat (a b : Cell) :
    (add31 a b).toNat =
      if a.toNat + b.toNat < 2 ^ 31 then a.toNat + b.toNat else a.toNat + b.toNat - (2 ^ 31 - 1) := by
  have ha := a.isLt
  have hb := b.isLt
  have hmask (n : Nat) : n &&& 2147483647 = n % 2147483648 := Nat.and_two_pow_sub_one_eq_mod n 31
  simp only [add31, BitVec.toNat_setWidth, BitVec.toNat_add, BitVec.toNat_and, BitVec.toNat_ushiftRight,
    BitVec.toNat_ofNat, Nat.shiftRight_eq_div_pow, Nat.reducePow, Nat.reduceMod, hmask] at *
  split <;> omega

/-- ROT31 is the 31-bit cyclic left rotate (40_arith31.md R64). -/
theorem rot31_eq_rotateLeft (x : Cell) (k : Nat) (h : k < 31) : rot31 x k = x.rotateLeft k := by
  apply BitVec.eq_of_getLsbD_eq
  intro i hi
  have hm : (2147483647#32).getLsbD i = true := by
    rw [BitVec.getLsbD_ofNat]
    have : (2147483647 : Nat) = 2 ^ 31 - 1 := rfl
    rw [this, Nat.testBit_two_pow_sub_one]
    simp; omega
  simp only [rot31, BitVec.getLsbD_setWidth, BitVec.getLsbD_and, BitVec.getLsbD_or, BitVec.getLsbD_shiftLeft,
    BitVec.getLsbD_ushiftRight, hm, BitVec.getLsbD_rotateLeft, Nat.mod_eq_of_lt h]
  have hi32 : i < 32 := by omega
  by_cases hk : i < k
  · have hin : 31 - k + i < 32 := by omega
    simp [hk, hi, hi32, hin]
  · have hout : x.getLsbD (31 - k + i) = false := BitVec.getLsbD_of_ge _ _ (by omega)
    have hin : i - k < 32 := by omega
    simp [hk, hi, hi32, hout, hin]

/-- ROT32 is the 32-bit cyclic left rotate (40_arith31.md R65). -/
theorem rot32_eq_rotateLeft (x : Word) (k : Nat) (h : k < 32) : rot32 x k = x.rotateLeft k := by
  simp [rot32, BitVec.rotateLeft_def, Nat.mod_eq_of_lt h]

end Sys2Proof.Laws
end

