-- ==== Sys2Proof/Laws/PerInstr.lean ====
section
/-! SUPPORT. Laws/PerInstr.lean: the per-instruction family OpField: the command word the encoder writes for an
instruction carries that instruction's opcode (spec/30_encoding.md R50). -/

namespace Sys2Proof.Laws

/-- The `op` column of the opcode map (30_encoding.md R50). -/
def opcode (i : Instr) : BitVec 2 :=
  match i with
  | .nop => 0b00#2
  | .init _ _ _ _ => 0b01#2
  | .next => 0b10#2
  | .rsvd => 0b11#2

/-- The opcode field of an assembled word is the opcode it was assembled from (30_encoding.md R49). -/
theorem fieldOp_assemble (op : BitVec 2) (klen ivlen : BitVec 5) (key iv : BitVec 128) :
    fieldOp (assemble op klen ivlen key iv) = op := by
  apply BitVec.eq_of_getLsbD_eq
  intro i hi
  simp only [fieldOp, assemble, BitVec.getLsbD_extractLsb', BitVec.getLsbD_append]
  have : i = 0 ∨ i = 1 := by omega
  rcases this with rfl | rfl <;> simp

end Sys2Proof.Laws

/-- The encoder writes the instruction's own opcode (30_encoding.md R50). -/
def Sys2Proof.Laws.OpField.Statement (i : Sys2Proof.Instr) : Prop :=
  Sys2Proof.fieldOp (Sys2Proof.encode i) = Sys2Proof.Laws.opcode i

theorem Sys2Proof.Laws.OpField.nop : Sys2Proof.Laws.OpField.Statement .nop :=
  Sys2Proof.Laws.fieldOp_assemble _ _ _ _ _

theorem Sys2Proof.Laws.OpField.init (klen ivlen : Nat) (key iv : BitVec 128) :
    Sys2Proof.Laws.OpField.Statement (.init klen ivlen key iv) :=
  Sys2Proof.Laws.fieldOp_assemble _ _ _ _ _

theorem Sys2Proof.Laws.OpField.next : Sys2Proof.Laws.OpField.Statement .next :=
  Sys2Proof.Laws.fieldOp_assemble _ _ _ _ _

theorem Sys2Proof.Laws.OpField.rsvd : Sys2Proof.Laws.OpField.Statement .rsvd :=
  Sys2Proof.Laws.fieldOp_assemble _ _ _ _ _
end

