-- ==== Sys2Proof/Laws/Encoding.lean ====
section
/-! SUPPORT. Laws/Encoding.lean: the bits and the fields of an assembled command word (spec/30_encoding.md R49). -/

namespace Sys2Proof.Laws

/-- Which field a bit of an assembled command word belongs to (30_encoding.md R49). -/
theorem assemble_getLsbD (op : BitVec 2) (klen ivlen : BitVec 5) (key iv : BitVec 128) (i : Nat) :
    (assemble op klen ivlen key iv).getLsbD i =
      if i < 128 then iv.getLsbD i else if i < 256 then key.getLsbD (i - 128)
      else if i < 261 then ivlen.getLsbD (i - 256) else if i < 266 then klen.getLsbD (i - 261)
      else op.getLsbD (i - 266) := by
  simp only [assemble, BitVec.getLsbD_append]
  by_cases h1 : i < 128
  · simp only [h1, if_true]
  by_cases h2 : i < 256
  · simp only [h1, h2, show i - 128 < 128 by omega, if_true, if_false]
  by_cases h3 : i < 261
  · simp only [h1, h2, h3, show ¬ (i - 128 < 128) by omega, show i - 128 - 128 = i - 256 by omega,
      show i - 256 < 5 by omega, if_true, if_false]
  by_cases h4 : i < 266
  · simp only [h1, h2, h3, h4, show ¬ (i - 128 < 128) by omega, show ¬ (i - 128 - 128 < 5) by omega,
      show i - 128 - 128 - 5 = i - 261 by omega, show i - 261 < 5 by omega, if_true, if_false]
  · simp only [h1, h2, h3, h4, show ¬ (i - 128 < 128) by omega, show ¬ (i - 128 - 128 < 5) by omega,
      show ¬ (i - 128 - 128 - 5 < 5) by omega, show i - 128 - 128 - 5 - 5 = i - 266 by omega, if_false]

/-- The four operand fields of an assembled command word are the ones it was assembled from (30_encoding.md R49). -/
theorem fields_assemble (op : BitVec 2) (klen ivlen : BitVec 5) (key iv : BitVec 128) :
    fieldKlen (assemble op klen ivlen key iv) = klen ∧ fieldIvlen (assemble op klen ivlen key iv) = ivlen ∧
      fieldKey (assemble op klen ivlen key iv) = key ∧ fieldIv (assemble op klen ivlen key iv) = iv := by
  refine ⟨?_, ?_, ?_, ?_⟩ <;> apply BitVec.eq_of_getLsbD_eq <;> intro i hi <;>
    simp only [fieldKlen, fieldIvlen, fieldKey, fieldIv, BitVec.getLsbD_extractLsb', assemble_getLsbD, hi,
      decide_true, Bool.true_and]
  · rw [if_neg (by omega), if_neg (by omega), if_neg (by omega), if_pos (by omega)]
    exact congrArg klen.getLsbD (by omega)
  · rw [if_neg (by omega), if_neg (by omega), if_pos (by omega)]
    exact congrArg ivlen.getLsbD (by omega)
  · rw [if_neg (by omega), if_pos (by omega)]
    exact congrArg key.getLsbD (by omega)
  · rw [if_pos (by omega)]
    exact congrArg iv.getLsbD (by omega)

end Sys2Proof.Laws
end

