-- ==== Sys2Proof/Laws/State.lean ====
section
/-! SUPPORT. Laws/State.lean: one lemma per field per update of the state, so that no later proof unfolds a record
update. -/

namespace Sys2Proof.Laws

open Machine

@[simp] theorem setRegs_regs (r : Regs) (s : State) : (setRegs r s).regs = r := rfl
@[simp] theorem setRegs_inited (r : Regs) (s : State) : (setRegs r s).inited = s.inited := rfl
@[simp] theorem setRegs_warm (r : Regs) (s : State) : (setRegs r s).warm = s.warm := rfl
@[simp] theorem setRegs_fault (r : Regs) (s : State) : (setRegs r s).fault = s.fault := rfl
@[simp] theorem setRegs_rsp (r : Regs) (s : State) : (setRegs r s).rsp = s.rsp := rfl
@[simp] theorem setRegs_host (r : Regs) (s : State) : (setRegs r s).host = s.host := rfl
@[simp] theorem setRegs_resets (r : Regs) (s : State) : (setRegs r s).resets = s.resets := rfl

@[simp] theorem respond_regs (c : BitVec 2) (z : Option Word) (s : State) : (respond c z s).regs = s.regs := rfl
@[simp] theorem respond_inited (c : BitVec 2) (z : Option Word) (s : State) : (respond c z s).inited = s.inited := rfl
@[simp] theorem respond_warm (c : BitVec 2) (z : Option Word) (s : State) : (respond c z s).warm = s.warm := rfl
@[simp] theorem respond_fault (c : BitVec 2) (z : Option Word) (s : State) : (respond c z s).fault = s.fault := rfl
@[simp] theorem respond_rsp (c : BitVec 2) (z : Option Word) (s : State) : (respond c z s).rsp = some { status := c, z := z } := rfl
@[simp] theorem respond_host (c : BitVec 2) (z : Option Word) (s : State) : (respond c z s).host = s.host := rfl
@[simp] theorem respond_resets (c : BitVec 2) (z : Option Word) (s : State) : (respond c z s).resets = s.resets := rfl

@[simp] theorem setFault_regs (c : BitVec 2) (s : State) : (setFault c s).regs = s.regs := rfl
@[simp] theorem setFault_inited (c : BitVec 2) (s : State) : (setFault c s).inited = s.inited := rfl
@[simp] theorem setFault_warm (c : BitVec 2) (s : State) : (setFault c s).warm = s.warm := rfl
@[simp] theorem setFault_fault (c : BitVec 2) (s : State) : (setFault c s).fault = c := rfl
@[simp] theorem setFault_rsp (c : BitVec 2) (s : State) : (setFault c s).rsp = s.rsp := rfl
@[simp] theorem setFault_host (c : BitVec 2) (s : State) : (setFault c s).host = s.host := rfl
@[simp] theorem setFault_resets (c : BitVec 2) (s : State) : (setFault c s).resets = s.resets := rfl

@[simp] theorem markReady_regs (s : State) : (markReady s).regs = s.regs := rfl
@[simp] theorem markReady_inited (s : State) : (markReady s).inited = true := rfl
@[simp] theorem markReady_warm (s : State) : (markReady s).warm = false := rfl
@[simp] theorem markReady_fault (s : State) : (markReady s).fault = s.fault := rfl
@[simp] theorem markReady_rsp (s : State) : (markReady s).rsp = s.rsp := rfl
@[simp] theorem markReady_host (s : State) : (markReady s).host = s.host := rfl
@[simp] theorem markReady_resets (s : State) : (markReady s).resets = s.resets := rfl

@[simp] theorem markWarm_regs (s : State) : (markWarm s).regs = s.regs := rfl
@[simp] theorem markWarm_inited (s : State) : (markWarm s).inited = s.inited := rfl
@[simp] theorem markWarm_warm (s : State) : (markWarm s).warm = true := rfl
@[simp] theorem markWarm_fault (s : State) : (markWarm s).fault = s.fault := rfl
@[simp] theorem markWarm_rsp (s : State) : (markWarm s).rsp = s.rsp := rfl
@[simp] theorem markWarm_host (s : State) : (markWarm s).host = s.host := rfl
@[simp] theorem markWarm_resets (s : State) : (markWarm s).resets = s.resets := rfl

@[simp] theorem portIdle_regs (s : State) : (portIdle s).regs = s.regs := rfl
@[simp] theorem portIdle_inited (s : State) : (portIdle s).inited = s.inited := rfl
@[simp] theorem portIdle_warm (s : State) : (portIdle s).warm = s.warm := rfl
@[simp] theorem portIdle_fault (s : State) : (portIdle s).fault = s.fault := rfl
@[simp] theorem portIdle_rsp (s : State) : (portIdle s).rsp = none := rfl
@[simp] theorem portIdle_host (s : State) : (portIdle s).host = s.host := rfl
@[simp] theorem portIdle_resets (s : State) : (portIdle s).resets = s.resets := rfl

@[simp] theorem hardwareReset_regs (s : State) : (hardwareReset s).regs = Config.regsAfterReset s.resets s.regs := rfl
@[simp] theorem hardwareReset_inited (s : State) : (hardwareReset s).inited = false := rfl
@[simp] theorem hardwareReset_warm (s : State) : (hardwareReset s).warm = false := rfl
@[simp] theorem hardwareReset_fault (s : State) : (hardwareReset s).fault = 0 := rfl
@[simp] theorem hardwareReset_rsp (s : State) : (hardwareReset s).rsp = none := rfl
@[simp] theorem hardwareReset_host (s : State) : (hardwareReset s).host = s.host := rfl
@[simp] theorem hardwareReset_resets (s : State) : (hardwareReset s).resets = s.resets + 1 := rfl

end Sys2Proof.Laws
end

