-- ==== Sys2Proof/Laws/Ops.lean ====
section
/-! SUPPORT. Laws/Ops.lean: what each shared operation can do, said once (the FAULT check, taking a fault, the ports,
a step). -/

namespace Sys2Proof.Laws

open Machine

/-- With `FAULT = 0` the FAULT check lets the command run (60_exceptions.md R122). -/
theorem unlessFaulted_clear {command : State → State} {s : State} (h : s.fault = 0) :
    unlessFaulted command s = command s := if_pos h

/-- With `FAULT != 0` the command does nothing but respond with the stored code (60_exceptions.md R122). -/
theorem unlessFaulted_faulted {command : State → State} {s : State} (h : s.fault ≠ 0) :
    unlessFaulted command s = respond s.fault none s := if_neg h

/-- Everything a command behind the FAULT check can do. -/
theorem unlessFaulted_cases (command : State → State) (s : State) :
    (s.fault = 0 ∧ unlessFaulted command s = command s) ∨
      (s.fault ≠ 0 ∧ unlessFaulted command s = respond s.fault none s) := by
  by_cases h : s.fault = 0
  · exact .inl ⟨h, unlessFaulted_clear h⟩
  · exact .inr ⟨h, unlessFaulted_faulted h⟩

/-- A non-fatal fault writes no state (60_exceptions.md R114). -/
theorem raiseFault_invalidLength (s : State) :
    raiseFault .invalidLength s = respond 1 none s := rfl

/-- Fatal fault entry with code 2 (60_exceptions.md R115, R121). -/
theorem raiseFault_uninitialized (s : State) :
    raiseFault .uninitialized s = respond 2 none (setFault 2 s) := rfl

/-- Fatal fault entry with code 3 (60_exceptions.md R116, R121). -/
theorem raiseFault_illegalCommand (s : State) :
    raiseFault .illegalCommand s = respond 3 none (setFault 3 s) := rfl

/-- No fault touches the data registers, the two other flags or the host's schedule (60_exceptions.md R121). -/
theorem raiseFault_frame (x : CoreFault) (s : State) :
    (raiseFault x s).regs = s.regs ∧ (raiseFault x s).inited = s.inited ∧
      (raiseFault x s).warm = s.warm ∧ (raiseFault x s).host = s.host ∧
      (raiseFault x s).resets = s.resets := by
  cases x <;> exact ⟨rfl, rfl, rfl, rfl, rfl⟩

/-- The word of the response of a draw, and what a draw writes (44_commands.md R91). -/
theorem drawWord_eq (s : State) :
    drawWord s = { s with
      regs := roundWork (warmedRegs s.warm s.regs), warm := true,
      rsp := some { status := 0, z := some (roundWord (warmedRegs s.warm s.regs)) } } := rfl

/-- What a successful INIT writes (44_commands.md R90). -/
theorem initialize128_eq (key iv : BitVec 128) (s : State) :
    initialize128 key iv s = { s with
      regs := initRegs key iv, inited := true, warm := false,
      rsp := some { status := 0, z := none } } := rfl

/-! One lemma per field for the two updates that write the data registers. -/

@[simp] theorem drawWord_regs (s : State) : (drawWord s).regs = roundWork (warmedRegs s.warm s.regs) := rfl
@[simp] theorem drawWord_inited (s : State) : (drawWord s).inited = s.inited := rfl
@[simp] theorem drawWord_warm (s : State) : (drawWord s).warm = true := rfl
@[simp] theorem drawWord_fault (s : State) : (drawWord s).fault = s.fault := rfl
@[simp] theorem drawWord_rsp (s : State) : (drawWord s).rsp = some { status := 0, z := some (roundWord (warmedRegs s.warm s.regs)) } := rfl
@[simp] theorem drawWord_host (s : State) : (drawWord s).host = s.host := rfl
@[simp] theorem drawWord_resets (s : State) : (drawWord s).resets = s.resets := rfl

@[simp] theorem initialize128_regs (key iv : BitVec 128) (s : State) :
    (initialize128 key iv s).regs = initRegs key iv := rfl
@[simp] theorem initialize128_inited (key iv : BitVec 128) (s : State) :
    (initialize128 key iv s).inited = true := rfl
@[simp] theorem initialize128_warm (key iv : BitVec 128) (s : State) :
    (initialize128 key iv s).warm = false := rfl
@[simp] theorem initialize128_fault (key iv : BitVec 128) (s : State) :
    (initialize128 key iv s).fault = s.fault := rfl
@[simp] theorem initialize128_rsp (key iv : BitVec 128) (s : State) :
    (initialize128 key iv s).rsp = some { status := 0, z := none } := rfl
@[simp] theorem initialize128_host (key iv : BitVec 128) (s : State) :
    (initialize128 key iv s).host = s.host := rfl
@[simp] theorem initialize128_resets (key iv : BitVec 128) (s : State) :
    (initialize128 key iv s).resets = s.resets := rfl

/-- The length test passes for 16 and 16 only (30_encoding.md R52). -/
theorem lengthsAccepted_iff (klen ivlen : Nat) :
    lengthsAccepted klen ivlen = true ↔ klen = 16 ∧ ivlen = 16 := by
  simp [lengthsAccepted]

/-- A host with nothing left to do leaves the port idle. -/
theorem nextMove_nil {s : State} (h : s.host = []) : nextMove s = (.idle, s) := by
  simp [nextMove, h]

/-- The host's next move is taken from the schedule and nothing else changes. -/
theorem nextMove_cons {s : State} {m : HostMove} {rest : List HostMove} (h : s.host = m :: rest) :
    nextMove s = (m, { s with host := rest }) := by
  simp [nextMove, h]

/-- Everything one step can be. -/
theorem step_cases (s : State) :
    (s.host = [] ∧ step s = .next (portIdle s)) ∨
    (∃ rest, s.host = .idle :: rest ∧ step s = .next (portIdle { s with host := rest })) ∨
    (∃ rest, s.host = .rst :: rest ∧ step s = .next (hardwareReset { s with host := rest })) ∨
    (∃ cw rest, s.host = .command cw :: rest ∧ step s = exec (decode cw) { s with host := rest }) := by
  rcases h : s.host with _ | ⟨m, rest⟩
  · exact .inl ⟨rfl, by simp [step, nextMove_nil h]⟩
  · cases m with
    | idle => exact .inr (.inl ⟨rest, rfl, by simp [step, nextMove_cons h]⟩)
    | rst => exact .inr (.inr (.inl ⟨rest, rfl, by simp [step, nextMove_cons h]⟩))
    | command cw => exact .inr (.inr (.inr ⟨cw, rest, rfl, by simp [step, nextMove_cons h]⟩))

/-- Everything one command can do: exec answers a next state, one of the rows of the transition table
(44_commands.md R98). -/
theorem exec_cases (i : Instr) (s : State) :
    ∃ t, exec i s = .next t ∧
      ((s.fault ≠ 0 ∧ t = respond s.fault none s) ∨
       (s.fault = 0 ∧ i = .nop ∧ t = respond 0 none s) ∨
       (s.fault = 0 ∧ (∃ key iv, i = .init 16 16 key iv ∧ t = initialize128 key iv s)) ∨
       (s.fault = 0 ∧ (∃ klen ivlen key iv, i = .init klen ivlen key iv ∧ ¬(klen = 16 ∧ ivlen = 16)) ∧
         t = respond 1 none s) ∨
       (s.fault = 0 ∧ s.inited = false ∧ i = .next ∧ t = respond 2 none (setFault 2 s)) ∨
       (s.fault = 0 ∧ s.inited = true ∧ i = .next ∧ t = drawWord s) ∨
       (s.fault = 0 ∧ i = .rsvd ∧ t = respond 3 none (setFault 3 s))) := by
  by_cases hf : s.fault = 0
  · cases i with
    | nop => exact ⟨_, rfl, .inr (.inl ⟨hf, rfl, unlessFaulted_clear hf⟩)⟩
    | init klen ivlen key iv =>
      refine ⟨_, rfl, ?_⟩
      rw [unlessFaulted_clear hf]
      by_cases hl : klen = 16 ∧ ivlen = 16
      · obtain ⟨rfl, rfl⟩ := hl
        exact .inr (.inr (.inl ⟨hf, key, iv, rfl, rfl⟩))
      · refine .inr (.inr (.inr (.inl ⟨hf, ⟨klen, ivlen, key, iv, rfl, hl⟩, ?_⟩)))
        rw [if_neg (by simpa [lengthsAccepted_iff] using hl), raiseFault_invalidLength]
    | next =>
      refine ⟨_, rfl, ?_⟩
      rw [unlessFaulted_clear hf]
      cases hi : s.inited with
      | false => exact .inr (.inr (.inr (.inr (.inl ⟨hf, rfl, rfl, rfl⟩))))
      | true => exact .inr (.inr (.inr (.inr (.inr (.inl ⟨hf, rfl, rfl, rfl⟩)))))
    | rsvd =>
      exact ⟨_, rfl, .inr (.inr (.inr (.inr (.inr (.inr ⟨hf, rfl, unlessFaulted_clear hf⟩)))))⟩
  · cases i <;> exact ⟨_, rfl, .inl ⟨hf, unlessFaulted_faulted hf⟩⟩

end Sys2Proof.Laws
end

