-- ==== Sys2Proof/Laws/Host.lean ====
section
/-! SUPPORT. Laws/Host.lean: a step always answers a next state, and what a list of commands is, one command at a time
(spec/30_encoding.md R59, spec/44_commands.md R95). -/

namespace Sys2Proof.Laws

open Machine

/-- Every step answers a next state: "every command finishes" (70_reset_and_hazards.md R142). -/
theorem step_answers_next (s : State) : ∃ t, step s = .next t := by
  rcases step_cases s with ⟨_, h⟩ | ⟨_, _, h⟩ | ⟨_, _, h⟩ | ⟨cw, rest, _, h⟩
  · exact ⟨_, h⟩
  · exact ⟨_, h⟩
  · exact ⟨_, h⟩
  · obtain ⟨t, ht, _⟩ := exec_cases (decode cw) { s with host := rest }
    exact ⟨t, h.trans ht⟩

/-- A run of no step. -/
theorem runSteps_zero (s : State) : runSteps 0 s = .next s := rfl

/-- One step of a run and then the rest. -/
theorem runSteps_succ {k : Nat} {s t : State} (h : step s = .next t) : runSteps (k + 1) s = runSteps k t := by
  simp only [runSteps, h]

/-- A host that presents the word of `i` gets the state exec answers for what the decoder reads. -/
theorem issue_eq {i : Instr} {s t : State} (h : exec (decode (encode i)) s = .next t) : issue i s = t := by
  have hm : nextMove { s with host := .command (encode i) :: s.host } = (.command (encode i), s) := rfl
  simp [issue, step, hm, h]

theorem issueAll_cons (i : Instr) (rest : List Instr) (s : State) :
    issueAll (i :: rest) s =
      ((responseWord (issue i s)).toList ++ (issueAll rest (issue i s)).1, (issueAll rest (issue i s)).2) := rfl

/-- `NEXTN 0` expands to nothing (44_commands.md R95). -/
theorem nextN_zero (s : State) : nextN 0 s = ([], s) := rfl

/-- One NEXT and then the rest (30_encoding.md R59). -/
theorem nextN_succ (n : Nat) (s : State) :
    nextN (n + 1) s =
      ((responseWord (issue .next s)).toList ++ (nextN n (issue .next s)).1, (nextN n (issue .next s)).2) := rfl

end Sys2Proof.Laws
end

