-- ==== Sys2Proof/Laws/Tables.lean ====
section
/-! SUPPORT. Laws/Tables.lean: every table read is in range (spec/20_memory.md R33), and the load constants are not
zero (R36). -/

namespace Sys2Proof.Laws

open Machine

/-- Both substitution tables have 16 rows of 16 entries, and `D` has 16 entries, so the default entry of a read is
never the one read (20_memory.md R33). -/
theorem readRows_in_range :
    rowsS0.length = 16 ∧ rowsS1.length = 16 ∧ (∀ row ∈ rowsS0, row.length = 16) ∧
      (∀ row ∈ rowsS1, row.length = 16) ∧ entriesD.length = 16 := by decide

/-- "Every entry is non-zero" (20_memory.md R36). -/
theorem readD_ne_zero (i : Fin 16) : readD i ≠ 0 := by
  revert i; decide

end Sys2Proof.Laws
end

