-- ==== Sys2Proof/Tests/Slice0.lean ====
section
/-! SUPPORT. Tests/Slice0.lean: tests of the model. Every expected value is copied from spec/95_test_vectors.md or from a
rule's own example; the section each comes from is named. The last part holds a witness for the hypotheses of each
statement of Certificates/Slice0/Obligations.lean. -/

namespace Sys2Proof.Tests

open Machine

/-! ### States -/

/-- A core as after reset, with these registers in the place of the opaque ones, so that a test can name them. -/
def freshCore : State :=
  { State.reset with regs := { cells := Vector.replicate 16 1, r1 := 0, r2 := 0 } }

/-- The state the all-zero-key INIT leaves (95_test_vectors.md section 4). -/
def readyCore : State :=
  { freshCore with
    regs :=
      { cells := #v[0x7ce15b8b, 0x747ca0c4, 0x6259dd0b, 0x47a94c2b, 0x3a89c82e, 0x32b433fc, 0x231ea13f, 0x31711e42,
          0x4ccce955, 0x3fb6071e, 0x161d3512, 0x7114b136, 0x5154d452, 0x78c69a74, 0x4f26ba6b, 0x3e1b8d6a]
        r1 := 0x14cfd44c
        r2 := 0x8c6de800 }
    inited := true }

/-- A core that has taken the fatal fault Uninitialized. -/
def faultedCore : State := { freshCore with fault := 2 }

/-- The state an outcome answers, or the first argument. -/
def stateOr (s : State) (o : Host.Outcome State Fault Refusal) : State :=
  match o with
  | .next t => t
  | .fault _ => s
  | .refused _ => s

/-! ### Well-formedness: an ill-formed term for each check -/

theorem test_wellFormed_klen_too_long : WellFormed (.init 32 16 0 0) = false := by decide
theorem test_wellFormed_ivlen_too_long : WellFormed (.init 16 32 0 0) = false := by decide
theorem test_wellFormed_longest_lengths : WellFormed (.init 31 31 0 0) = true := by decide

/-! ### Decoding: words written out from 30_encoding.md R49, R50 and R60 -/

/-- NOP with all other bits set, `3` and 66 `f` (95_test_vectors.md 5.9). -/
theorem test_decode_nop_all_ones :
    decode 0x3ffffffffffffffffffffffffffffffffffffffffffffffffffffffffffffffffff#268 = .nop := by decide

/-- NEXT with all other bits set, `b` and 66 `f` (95_test_vectors.md 5.9). -/
theorem test_decode_next_all_ones :
    decode 0xbffffffffffffffffffffffffffffffffffffffffffffffffffffffffffffffffff#268 = .next := by decide

/-- RSVD with all bits set, 67 `f` (95_test_vectors.md 5.9). -/
theorem test_decode_rsvd_all_ones :
    decode 0xfffffffffffffffffffffffffffffffffffffffffffffffffffffffffffffffffff#268 = .rsvd := by decide

/-- The INIT word of V2 (95_test_vectors.md section 1). -/
theorem test_decode_init_v2 :
    decode 0x610173d14ba5003731d7a60049470f00a2966035492780000006603549278000000#268 =
      .init 16 16 0x173d14ba5003731d7a60049470f00a29#128 0x66035492780000006603549278000000#128 := by decide

/-- `klen = ivlen = 31`, `7ff` and 64 zeros (95_test_vectors.md 5.9), bit by bit `01 11111 11111`. -/
theorem test_decode_init_longest :
    decode (0b01#2 ++ 0b11111#5 ++ 0b11111#5 ++ 0#128 ++ 0#128) = .init 31 31 0 0 := by decide

/-- `ivlen = 17` with all-ones key and IV, `611` and 64 `f` (95_test_vectors.md 5.9). -/
theorem test_decode_init_ivlen_17 :
    decode 0x611ffffffffffffffffffffffffffffffffffffffffffffffffffffffffffffffff#268 =
      .init 16 17 (BitVec.allOnes 128) (BitVec.allOnes 128) := by decide

/-- The opcode table's INIT row, all other bits zero. -/
theorem test_decodeTableWord_init_row :
    decodeTableWord 272 0x4000000000000000000000000000000000000000000000000000000000000000000 =
      some (.init 0 0 0 0) := by decide

/-- A number with bit 268 set is no command word. -/
theorem test_decodeBits_too_wide :
    decodeBits 0x10000000000000000000000000000000000000000000000000000000000000000000 = .error .notOneCommandWord := by
  decide

/-- The opcode table's RSVD row runs as the first command after reset (95_test_vectors.md 5.9). -/
theorem test_step_rsvd_after_reset :
    (stateOr faultedCore
      (step (State.reset.withFetchWord 272
        0xc000000000000000000000000000000000000000000000000000000000000000000))).fault = 3 := by decide

/-! ### The primitives (95_test_vectors.md section 5) -/

/-- 95_test_vectors.md 5.1: `P` is kept, a sum of `P` stays `P`, the fold, and an ordinary carry. -/
theorem test_add31_rows :
    add31 0x7fffffff 0 = 0x7fffffff ∧ add31 1 0x7ffffffe = 0x7fffffff ∧ add31 0x40000000 0x40000000 = 1 ∧
      add31 0x12345678 0x7edcba98 = 0x11111111 := by decide

/-- 95_test_vectors.md 5.2. -/
theorem test_rot31_rows :
    rot31 0x40000000 1 = 1 ∧ rot31 0x7f800000 8 = 0xff ∧ rot31 0x12345678 21 = 0x4f048d15 ∧
      rot31 0x12345678 15 = 0x2b3c1234 := by decide

/-- 95_test_vectors.md 5.3. -/
theorem test_rot32_rows :
    rot32 0x80000001 2 = 6 ∧ rot32 0x12345678 14 = 0x159e048d ∧ rot32 0x12345678 30 = 0x048d159e := by decide

/-- 20_memory.md R34, R35: the two entries the rules name, and the sum of each table. -/
theorem test_tables :
    readS0 0x12 = 0xF9 ∧ readS1 0x12 = 0x94 ∧
      (rowsS0.flatten.map BitVec.toNat).sum = 32640 ∧ (rowsS1.flatten.map BitVec.toNat).sum = 32640 := by decide +kernel

/-- 41_lfsr.md R70: cell 0 of V5, the smallest and the largest loaded cell (95_test_vectors.md 5.4). -/
theorem test_loadCells :
    (loadCells 0x3d4c4be96a82fdaeb58f641db17b455b 0x84319aa8de6915ca1f6bda6bfbd8c766)[0] = 0x1ec4d784 ∧
      (loadCells 0 0)[7] = 0x0009af00 ∧
      (loadCells (BitVec.allOnes 128) (BitVec.allOnes 128))[14] = 0x7ff89aff := by decide

/-- 41_lfsr.md R72, R73: the example of the loaded zero state. -/
theorem test_feedback_zero_state :
    feedback (loadCells 0 0) = 0x451bfe1b ∧ (lfsrInit (loadCells 0 0) 0x0047cd00)[15] = 0x4563cb1b ∧
      (lfsrInit (loadCells 0 0) 0x0047cd00)[0] = 0x0026bc00 := by decide

/-- 95_test_vectors.md 5.6: the loaded V5 state, and the row of bit 15. -/
theorem test_bitReorg :
    bitReorg (loadCells 0x3d4c4be96a82fdaeb58f641db17b455b 0x84319aa8de6915ca1f6bda6bfbd8c766) =
        { x0 := 0x5b8f9ac7, x1 := 0xf16b8f5e, x2 := 0xafca826b, x3 := 0x6b9a3d89 } ∧
      bitReorg (Vector.replicate 16 0x8000) =
        { x0 := 0x00018000, x1 := 0x80000001, x2 := 0x80000001, x3 := 0x80000001 } := by decide

/-- 95_test_vectors.md 5.7. -/
theorem test_diffusion_and_sbox :
    diffuse1 0x12345678 = 0xaa4e9357 ∧ diffuse2 0x12345678 = 0xa975b26c ∧ sbox32 0x12345678 = 0xf9c05a4e ∧
      sbox32 0x0617ce69 = 0x00009fd5 := by decide

/-- 95_test_vectors.md 5.8, row 6. -/
theorem test_nonlinearF :
    nonlinearF 0x12345678 0x9abcdef0 0x0fedcba9 0x87654321 0xdeadbeef =
      { w := 0x73fed448, r1 := 0x30b5b97a, r2 := 0xe944cf47 } := by decide

/-- 95_test_vectors.md section 4, round 0. -/
theorem test_roundInit_first :
    (roundInit (loadedRegs 0 0)).r1 = 0x67822141 ∧ (roundInit (loadedRegs 0 0)).r2 = 0x62a3a55f ∧
      (roundInit (loadedRegs 0 0)).cells[15] = 0x4563cb1b := by decide

/-! ### The commands, one step each -/

/-- 95_test_vectors.md 5.9: NOP on the reset state. -/
theorem test_nop : (stateOr faultedCore (execNop freshCore)).rsp = some { status := 0, z := none } := by decide

/-- 95_test_vectors.md section 4: the state when the all-zero-key INIT responds. -/
theorem test_init_zero_key :
    stateOr faultedCore (execInit 16 16 0 0 freshCore) =
      { readyCore with rsp := some { status := 0, z := none } } := by decide +kernel

/-- 95_test_vectors.md 5.9: `klen = 15` is refused and the state stands. -/
theorem test_init_short_key :
    stateOr faultedCore (execInit 15 16 0 0 freshCore) =
      { freshCore with rsp := some { status := 1, z := none } } := by decide

/-- 95_test_vectors.md section 4: the first NEXT runs two rounds; its word, `R1`, `R2`, `S[15]`. -/
theorem test_next_first :
    (stateOr faultedCore (execNext readyCore)).rsp = some { status := 0, z := some 0x27bede74 } ∧
      (stateOr faultedCore (execNext readyCore)).regs.r1 = 0xc7ee7f13 ∧
      (stateOr faultedCore (execNext readyCore)).regs.r2 = 0x0c0fa817 ∧
      (stateOr faultedCore (execNext readyCore)).regs.cells[15] = 0x3d383d04 := by decide +kernel

/-- 95_test_vectors.md 5.9: NEXT on the reset state takes the fatal fault. -/
theorem test_next_uninitialized :
    stateOr readyCore (execNext freshCore) =
      { freshCore with fault := 2, rsp := some { status := 2, z := none } } := by decide

/-- 95_test_vectors.md 5.9: with `FAULT = 2` the reserved word answers 2 and `FAULT` stays 2. -/
theorem test_rsvd_on_faulted :
    stateOr readyCore (execRsvd faultedCore) =
      { faultedCore with rsp := some { status := 2, z := none } } := by decide

/-! ### The host procedures (95_test_vectors.md 5.10) -/

/-- 95_test_vectors.md 5.10: the IVs. -/
theorem test_ivs :
    confIV 1 0x1f .downlink = 0x00000001fc00000000000001fc000000 ∧
      integIV 1 0x1f .downlink = 0x00000001f800000080000001f8008000 ∧
      integIV 0xa94059da 0x0a .downlink = 0xa94059da50000000294059da50008000 := by decide

/-- 95_test_vectors.md 5.10: windows of the V1 stream. -/
theorem test_windows :
    keystreamWindow [0x27bede74, 0x018082da, 0x87d4e5b6] 1 = 0x4f7dbce8 ∧
      keystreamWindow [0x27bede74, 0x018082da, 0x87d4e5b6] 31 = 0x00c0416d ∧
      keystreamWindow [0x27bede74, 0x018082da, 0x87d4e5b6] 32 = 0x018082da ∧
      keystreamWindow [0x27bede74, 0x018082da, 0x87d4e5b6] 33 = 0x030105b5 := by decide

/-- 95_test_vectors.md 5.10: `Hash(ff ff ff ff, 32)`, from the three words of V1. -/
theorem test_foldTag :
    foldTag [0x27bede74, 0x018082da, 0x87d4e5b6] [0xff, 0xff, 0xff, 0xff] 32 3 = 0x9bbe5309 := by decide

/-- 95_test_vectors.md 5.10: `Apply(ff ff ff ff ff, 12)` byte by byte, from the first word of V1. -/
theorem test_appliedByte :
    (List.range 5).map (appliedByte (wordBytes 0x27bede74) [0xff, 0xff, 0xff, 0xff, 0xff] 12) =
      [0xd8, 0x40, 0, 0, 0] := by decide

/-! ### Witnesses for the hypotheses of the statements -/

theorem test_witness_DecodeOfEncodeIsIdentity : WellFormed (.init 31 0 0 1) = true := by decide

/-- One word for each masked value of the opcode map. -/
theorem test_witness_TopTwoBitsSelectTheCommand :
    (0#268 &&& (0b11#2 ++ (0 : BitVec 266))) = 0b00#2 ++ (0 : BitVec 266) ∧
      (encode (.init 31 31 1 1) &&& (0b11#2 ++ (0 : BitVec 266))) = 0b01#2 ++ (0 : BitVec 266) ∧
      (encode .next &&& (0b11#2 ++ (0 : BitVec 266))) = 0b10#2 ++ (0 : BitVec 266) ∧
      (BitVec.allOnes 268 &&& (0b11#2 ++ (0 : BitVec 266))) = 0b11#2 ++ (0 : BitVec 266) := by decide

/-- Bytes 0 and 15 of V5 (30_encoding.md R51). -/
theorem test_witness_KeyAndIvBytesOfTheCommandWord :
    (0 < 16 ∧ fieldByte 0x3d4c4be96a82fdaeb58f641db17b455b 0 = 0x3d) ∧
      (15 < 16 ∧ fieldByte 0x84319aa8de6915ca1f6bda6bfbd8c766 15 = 0x66) := by decide

theorem test_witness_DontCareBitsChangeNothing :
    (fieldOp 0#268 = fieldOp 1#268 ∧ fieldOp 0#268 ≠ 0b01#2) ∧ ¬(15 = 16 ∧ 16 = 16) ∧ ¬(16 = 16 ∧ 17 = 16) := by
  decide

theorem test_witness_StepRunsThePresentedCommand :
    WellFormed .next = true ∧
      ({ readyCore with host := [.command (encode .next)] } : State).host = .command (encode .next) :: [] := by
  decide

theorem test_witness_StepWithoutCommandHoldsTheState :
    readyCore.host = [] ∧ ({ readyCore with host := [.idle, .rst] } : State).host = .idle :: [.rst] := by decide

theorem test_witness_ResetMoveClearsTheFlags :
    ({ faultedCore with host := [.rst] } : State).host = .rst :: [] := by decide

theorem test_witness_ResetThenInitLeavesAnyFault :
    ({ faultedCore with host := [.rst, .command (encode (.init 16 16 1 2))] } : State).host =
      .rst :: .command (encode (.init 16 16 1 2)) :: [] := by decide

theorem test_witness_EveryStepKeepsTheInvariant :
    MachineInv { readyCore with host := [.command (encode .rsvd)] } ∧
      ∃ t, step { readyCore with host := [.command (encode .rsvd)] } = .next t :=
  ⟨by decide, Laws.step_answers_next _⟩

theorem test_witness_CellsNeverBecomeZero :
    ∀ i : Fin 16, 1 ≤ (Vector.replicate 16 (1 : Cell))[i].toNat := by decide

/-- The clause of a set `INITED` on an initialized core, the other one on a fresh core that gets its INIT. -/
theorem test_witness_OnlyInitSetsInited :
    (readyCore.inited = true ∧ HostMove.command (encode .next) ≠ .rst ∧
        ∃ t, step { readyCore with host := [.command (encode .next)] } = .next t) ∧
      (freshCore.inited = false ∧
        (stateOr freshCore (step { freshCore with host := [.command (encode (.init 16 16 0 0))] })).inited = true) :=
  ⟨⟨rfl, by decide, Laws.step_answers_next _⟩, by decide⟩

/-- A faulted core and a host that presents two commands. -/
theorem test_witness_FatalFaultHoldsUntilReset :
    faultedCore.fault ≠ 0 ∧ HostMove.rst ∉ [HostMove.command (encode .next), .idle].take 2 ∧
      (match runSteps 2 { faultedCore with host := [.command (encode .next), .idle] } with
        | .next t => t.fault
        | _ => 0) = 2 := by decide

theorem test_witness_FaultedCoreRefusesEveryCommand : faultedCore.fault ≠ 0 := by decide

theorem test_witness_NopOnlyResponds : freshCore.fault = 0 ∧ faultedCore.fault ≠ 0 := by decide

theorem test_witness_InitLoadsAndRunsThirtyTwoRounds :
    freshCore.fault = 0 ∧ (15 ≠ 16 ∨ 16 ≠ 16) ∧ (16 ≠ 16 ∨ 17 ≠ 16) ∧ faultedCore.fault ≠ 0 := by decide

theorem test_witness_NextWarmsUpOnceAndDrawsOneWord :
    (readyCore.fault = 0 ∧ readyCore.inited = true ∧ readyCore.warm = false) ∧
      ({ readyCore with warm := true } : State).warm = true ∧
      (freshCore.fault = 0 ∧ freshCore.inited = false) ∧ faultedCore.fault ≠ 0 := by decide

theorem test_witness_ReservedOpcodeIsFatal : readyCore.fault = 0 ∧ faultedCore.fault ≠ 0 := by decide

theorem test_witness_RejectedInitLeavesTheNextCommandAsItWas :
    readyCore.fault = 0 ∧ (0 ≠ 16 ∨ 16 ≠ 16) ∧ (16 ≠ 16 ∨ 31 ≠ 16) ∧
      ∃ t, exec (.init 16 31 0 0) readyCore = .next t := ⟨rfl, by decide, by decide, _, rfl⟩

theorem test_witness_EveryCommandRespondsByTheTable : ∃ t, exec .next freshCore = .next t := ⟨_, rfl⟩

/-- The frame's clauses: a NEXT that draws, a NEXT that faults, a rejected INIT. -/
theorem test_witness_CommandFrames :
    (∃ t, exec .next readyCore = .next t ∧ readyCore.inited = true) ∧
      (∃ t, exec .next freshCore = .next t ∧ freshCore.inited = false) ∧
      (∃ t, exec (.init 16 17 0 0) readyCore = .next t ∧
        ∀ key iv, Instr.init 16 17 0 0 ≠ .init 16 16 key iv) := by
  refine ⟨⟨_, rfl, rfl⟩, ⟨_, rfl, rfl⟩, _, rfl, ?_⟩
  intro key iv h
  simp at h

theorem test_witness_OnlyNextShowsTheRegisters :
    Instr.rsvd ≠ .next ∧ (∃ t, exec .rsvd readyCore = .next t) ∧
      ∃ t, exec .rsvd { readyCore with regs := freshCore.regs } = .next t := ⟨by decide, ⟨_, rfl⟩, ⟨_, rfl⟩⟩

theorem test_witness_InitForgetsTheStateBefore : freshCore.fault = 0 ∧ readyCore.fault = 0 := by decide

/-- A sum of exactly `P`, two zeros, and three non-zero operands, `P` among them. -/
theorem test_witness_Add31IsTheUnreducedModularSum :
    (1#31).toNat + (0x7ffffffe#31).toNat = 2 ^ 31 - 1 ∧ add31 0 0 = 0 ∧
      (1#31 ≠ 0 ∧ 0x7fffffff#31 ≠ 0 ∧ 2#31 ≠ 0) := by decide

/-- Both clauses of ROT31 at the first and last amount. -/
theorem test_witness_Rot31MultipliesByAPowerOfTwo :
    (1 ≤ 1 ∧ 30 ≤ 30) ∧ (0x7ffffffe#31).toNat < 2 ^ 31 - 1 ∧ rot31 0x7ffffffe 1 = 0x7ffffffd ∧
      rot31 0x7fffffff 30 = 0x7fffffff ∧ 1#31 ≠ 0 := by decide

theorem test_witness_Rot32IsALeftRotation : (1 ≤ 1 ∧ 31 ≤ 31) ∧ rot32 0x80000001 31 = 0xc0000000 := by decide

theorem test_witness_FeedbackFoldsSixTerms :
    (∀ i : Fin 16, (Vector.replicate 16 (0x7fffffff : Cell))[i] ≠ 0) ∧
      feedback (Vector.replicate 16 0x7fffffff) = 0x7fffffff := by decide

theorem test_witness_NextNConcatenates : freshCore.fault = 0 ∧ freshCore.inited = false := by decide

theorem test_witness_InitializedCoreAnswersEveryDraw : readyCore.fault = 0 ∧ readyCore.inited = true := by decide

theorem test_witness_KeystreamDependsOnKeyAndIvOnly : freshCore.fault = 0 ∧ readyCore.fault = 0 := by decide

theorem test_witness_KeystreamIsTheRoundsAfterTheWarmUp : freshCore.fault = 0 ∧ readyCore.fault = 0 := by decide

/-- One command of each of the three kinds. -/
theorem test_witness_SilentCommandsKeepTheKeystream :
    readyCore.fault = 0 ∧ readyCore.inited = true ∧
      ∀ i ∈ [Instr.nop, .next, .init 16 17 1 2], i = .nop ∨ i = .next ∨
        ∃ klen ivlen key iv, i = .init klen ivlen key iv ∧ klen ≤ 31 ∧ ivlen ≤ 31 ∧ (klen ≠ 16 ∨ ivlen ≠ 16) := by
  refine ⟨rfl, rfl, ?_⟩
  intro i hi
  simp only [List.mem_cons, List.not_mem_nil, or_false] at hi
  rcases hi with rfl | rfl | rfl
  · exact .inl rfl
  · exact .inr (.inl rfl)
  · exact .inr (.inr ⟨16, 17, 1, 2, rfl, by decide, by decide, by decide⟩)

/-- The ends of each range of byte numbers. -/
theorem test_witness_IvLayoutsByteByByte :
    (3 < 4) ∧ (5 ≤ 5 ∧ 7 < 8) ∧ (8 ≤ 8 ∧ 15 < 16) ∧ fieldByte (integIV 0 0 .downlink) 8 = 0x80 ∧
      fieldByte (integIV 0 0 .downlink) 15 = 0 := by decide

theorem test_witness_WindowIsThirtyTwoBitsOfTheStream :
    (32 + 32 ≤ 32 * [0x27bede74#32, 0x018082da#32].length ∧ 31 < 32) ∧
      (0 + 32 ≤ 32 * [0x27bede74#32].length ∧ 0 < 32) := by decide

/-- `Apply(00 00 00 00, 32)` answers, and a bit before and after the bit length (95_test_vectors.md 5.10). -/
theorem test_witness_ApplyXorsTheFirstBitsAndZeroesTheRest :
    freshCore.fault = 0 ∧ ((32#32).toNat + 7) / 8 ≤ ([0, 0, 0, 0] : List Byte).length ∧
    confApply freshCore 0 0 0 .uplink [0, 0, 0, 0] 32 = some [0x27, 0xbe, 0xde, 0x74] ∧
      31 < (32#32).toNat ∧ (32#32).toNat ≤ 32 := by decide +kernel

/-- Data that is zero beyond its one bit, and two cores without fault. -/
theorem test_witness_ApplyTwiceRestoresTheData :
    freshCore.fault = 0 ∧ readyCore.fault = 0 ∧ (confApply freshCore 0 0 0 .uplink [0x80] 1).isSome = true ∧
      ∀ i, (1#32).toNat ≤ i → messageBit [0x80] i = false := by
  refine ⟨rfl, rfl, by decide +kernel, ?_⟩
  intro i hi
  have h1 : 1 ≤ i := hi
  unfold messageBit
  by_cases h : i < 8
  · interval_cases i <;> decide
  · rw [List.getD_eq_default _ _ (by simp; omega)]
    exact BitVec.getLsbD_zero

theorem test_witness_HashAnswersFourBytes :
    freshCore.fault = 0 ∧ (0#32).toNat ≤ 8 * ([] : List Byte).length ∧ (8#32).toNat ≤ 8 * [0xa5#8].length := by decide

/-- `Hash(empty, 0)` answers its tag (95_test_vectors.md 5.10). -/
theorem test_witness_VerifyAcceptsExactlyTheTag :
    freshCore.fault = 0 ∧ readyCore.fault = 0 ∧
      integHash freshCore 0 0 0 .uplink [] 0 = some [0x26, 0x3e, 0x5c, 0xae] := by decide +kernel

/-- A key of 31 bytes and one of 32; a first and a last carried byte. -/
theorem test_witness_DriverCarriesLengthsAndBytes :
    ((List.replicate 31 (1 : Byte)).length ≤ 31 ∧ ([] : List Byte).length ≤ 31 ∧ (15 < 16 ∧ 15 < 31)) ∧
      32 ≤ (List.replicate 32 (1 : Byte)).length := by decide

end Sys2Proof.Tests
end

section
/-! The decoder inverts the encoder on well-formed commands (spec/30_encoding.md R49, R50, R58), and a step on a
presented command word (spec/00_scope.md R7). -/

namespace Sys2Proof.Laws

open Machine

/-- A five-bit length field holds an encodable length whole (30_encoding.md R52). -/
theorem toNat_ofNat_of_lengthEncodable {n : Nat} (h : lengthEncodable n = true) : (BitVec.ofNat 5 n).toNat = n := by
  have hn : n ≤ 31 := of_decide_eq_true h
  rw [BitVec.toNat_ofNat, Nat.mod_eq_of_lt (by omega)]

/-- The decoder reads an assembled INIT word field by field (30_encoding.md R49, R50). -/
theorem decode_assemble_init (klen ivlen : BitVec 5) (key iv : BitVec 128) :
    decode (assemble 0b01#2 klen ivlen key iv) = .init klen.toNat ivlen.toNat key iv := by
  obtain ⟨hklen, hivlen, hkey, hiv⟩ := fields_assemble 0b01#2 klen ivlen key iv
  simp [decode, fieldOp_assemble, hklen, hivlen, hkey, hiv]

/-- The word of a well-formed command decodes to that command (30_encoding.md R50, R58). -/
theorem decode_encode {i : Instr} (h : WellFormed i = true) : decode (encode i) = i := by
  cases i with
  | nop => simp [decode, encode, fieldOp_assemble]
  | init klen ivlen key iv =>
    obtain ⟨hklen, hivlen⟩ : lengthEncodable klen = true ∧ lengthEncodable ivlen = true := by
      simpa [WellFormed] using h
    rw [encode, decode_assemble_init, toNat_ofNat_of_lengthEncodable hklen, toNat_ofNat_of_lengthEncodable hivlen]
  | next => simp [decode, encode, fieldOp_assemble]
  | rsvd => simp [decode, encode, fieldOp_assemble]

/-- A step on a presented command word executes what the decoder reads (00_scope.md R7). -/
theorem step_command {s : State} {cw : CommandWord} {rest : List HostMove} (h : s.host = .command cw :: rest) :
    step s = exec (decode cw) { s with host := rest } := by
  simp [step, nextMove_cons h]

/-- Settles O7: the step on a presented word, and for the word of a well-formed command the decoder's round trip. -/
theorem stepRunsThePresentedCommand : Obligations.StepRunsThePresentedCommand := by
  refine ⟨fun s cw rest h => step_command h, fun s i rest hwf h => ?_⟩
  rw [step_command h, decode_encode hwf]

end Sys2Proof.Laws
end

section
/-! No cell of an initialized core becomes 0 (spec/10_state.md R17, spec/41_lfsr.md R76): LOADCELLS writes non-zero
cells, and a sum with a non-zero first term is non-zero, so no advance of the register brings a zero in. -/

namespace Sys2Proof.Laws

open Machine

/-- ADD31 is 0 only for 0 and 0 (40_arith31.md R63). -/
theorem add31_eq_zero_iff (a b : Cell) : add31 a b = 0 ↔ a = 0 ∧ b = 0 := by
  have hzero : (0 : Cell).toNat = 0 := rfl
  rw [BitVec.toNat_eq, BitVec.toNat_eq, BitVec.toNat_eq, add31_toNat, hzero]
  split <;> omega

/-- A sum with a non-zero first operand is non-zero (40_arith31.md R63). -/
theorem add31_ne_zero {a : Cell} (b : Cell) (ha : a ≠ 0) : add31 a b ≠ 0 :=
  fun h => ha ((add31_eq_zero_iff a b).1 h).1

/-- The fold starts at cell 0, so a non-zero cell 0 makes the feedback non-zero (41_lfsr.md R72). -/
theorem feedback_ne_zero {s : Vector Cell 16} (h : s[0] ≠ 0) : feedback s ≠ 0 :=
  add31_ne_zero _ (add31_ne_zero _ (add31_ne_zero _ (add31_ne_zero _ (add31_ne_zero _ h))))

/-- SHIFT writes `f` into the last cell and the next cell's old value into every other (41_lfsr.md R71). -/
theorem shiftCells_getElem (s : Vector Cell 16) (f : Cell) (i : Fin 16) :
    (shiftCells s f)[i] = if h : i.val + 1 < 16 then s[i.val + 1] else f := by
  fin_cases i <;> rfl

/-- SHIFT brings no zero into non-zero cells when what it feeds in is non-zero (41_lfsr.md R71, R76). -/
theorem shiftCells_ne_zero {s : Vector Cell 16} {f : Cell} (hs : ∀ i : Fin 16, s[i] ≠ 0) (hf : f ≠ 0) (i : Fin 16) :
    (shiftCells s f)[i] ≠ 0 := by
  rw [shiftCells_getElem]
  split
  · next h => exact hs ⟨i.val + 1, h⟩
  · exact hf

/-- An initialization-mode advance brings no zero in, whatever its `u` (41_lfsr.md R73, R76). -/
theorem lfsrInit_ne_zero {s : Vector Cell 16} (u : Cell) (hs : ∀ i : Fin 16, s[i] ≠ 0) (i : Fin 16) :
    (lfsrInit s u)[i] ≠ 0 :=
  shiftCells_ne_zero hs (add31_ne_zero u (feedback_ne_zero (hs 0))) i

/-- A work-mode advance brings no zero in (41_lfsr.md R74, R76). -/
theorem lfsrWork_ne_zero {s : Vector Cell 16} (hs : ∀ i : Fin 16, s[i] ≠ 0) (i : Fin 16) : (lfsrWork s)[i] ≠ 0 :=
  shiftCells_ne_zero hs (feedback_ne_zero (hs 0)) i

/-- A loaded cell holds a non-zero load constant in its middle bits (41_lfsr.md R70, 20_memory.md R36). -/
theorem loadedCell_ne_zero (key iv : BitVec 128) (i : Fin 16) : loadedCell key iv i ≠ 0 := by
  intro h
  have hmid : (loadedCell key iv i).extractLsb' 8 15 = readD i :=
    (BitVec.extractLsb'_append_eq_of_le (by decide)).trans BitVec.extractLsb'_append_eq_right
  exact readD_ne_zero i (by rw [← hmid, h]; rfl)

/-- LOADCELLS writes no zero cell (41_lfsr.md R76). -/
theorem loadCells_ne_zero (key iv : BitVec 128) (i : Fin 16) : (loadCells key iv)[i] ≠ 0 := by
  simpa [loadCells] using loadedCell_ne_zero key iv i

/-- A ROUND_INIT keeps the cells non-zero (44_commands.md R87). -/
theorem roundInit_cellsNonzero {r : Regs} (h : CellsNonzero r) : CellsNonzero (roundInit r) :=
  lfsrInit_ne_zero _ h

/-- A ROUND_WORK keeps the cells non-zero (44_commands.md R88). -/
theorem roundWork_cellsNonzero {r : Regs} (h : CellsNonzero r) : CellsNonzero (roundWork r) :=
  lfsrWork_ne_zero h

/-- Any number of ROUND_INIT keep the cells non-zero (44_commands.md R90). -/
theorem initRounds_cellsNonzero (n : Nat) {r : Regs} (h : CellsNonzero r) : CellsNonzero (initRounds n r) := by
  induction n generalizing r with
  | zero => exact h
  | succ n ih => exact ih (roundInit_cellsNonzero h)

/-- A successful INIT leaves no zero cell, whatever its key and IV (10_state.md R17). -/
theorem initRegs_cellsNonzero (key iv : BitVec 128) : CellsNonzero (initRegs key iv) :=
  initRounds_cellsNonzero 32 (r := loadedRegs key iv) (loadCells_ne_zero key iv)

/-- The warm-up round, run or not, keeps the cells non-zero (44_commands.md R91). -/
theorem warmedRegs_cellsNonzero (warm : Bool) {r : Regs} (h : CellsNonzero r) : CellsNonzero (warmedRegs warm r) := by
  cases warm with
  | false => exact roundWork_cellsNonzero h
  | true => exact h

end Sys2Proof.Laws
end

section
/-! The machine invariant (spec/10_state.md R17, R21, spec/44_commands.md R98): it holds at reset, and every kind of
step keeps it. -/

namespace Sys2Proof.Laws

open Machine

/-- An uninitialized core with `WARM` clear, a legal `FAULT` and an empty port meets the invariant. -/
theorem machineInv_of_uninited {s : State} (hi : s.inited = false) (hw : s.warm = false) (hf : s.fault ≠ 1)
    (hr : s.rsp = none) : MachineInv s :=
  ⟨by simp [InitedCellsNonzero, hi], by simp [WarmOnlyIfInited, hw], hf, by simp [ResponseAgrees, hr]⟩

/-- A step without a command keeps the invariant (60_exceptions.md R130). -/
theorem portIdle_machineInv {s : State} (h : MachineInv s) : MachineInv (portIdle s) := by
  obtain ⟨hcells, hwarm, hfault, -⟩ := h
  exact ⟨hcells, hwarm, hfault, by simp [ResponseAgrees]⟩

/-- `rst` leaves the invariant from every state (70_reset_and_hazards.md R131). -/
theorem hardwareReset_machineInv (s : State) : MachineInv (hardwareReset s) :=
  machineInv_of_uninited rfl rfl (by simp) rfl

/-- A response without a word keeps the invariant when its status agrees with `FAULT` (30_encoding.md R53). -/
theorem respond_machineInv {s : State} {c : BitVec 2} (h : MachineInv s) (hc : s.fault = if c = 1 then 0 else c) :
    MachineInv (respond c none s) := by
  obtain ⟨hcells, hwarm, hfault, -⟩ := h
  exact ⟨hcells, hwarm, hfault, by simpa [ResponseAgrees] using hc⟩

/-- Entering a fatal fault, whose code is not 1, keeps the invariant (60_exceptions.md R113, R121). -/
theorem respond_setFault_machineInv {s : State} {c : BitVec 2} (h : MachineInv s) (hc : c ≠ 1) :
    MachineInv (respond c none (setFault c s)) := by
  obtain ⟨hcells, hwarm, -, -⟩ := h
  exact ⟨hcells, hwarm, hc, by simpa [ResponseAgrees] using fun h => absurd h hc⟩

/-- A successful INIT on a core without fault leaves the invariant (44_commands.md R90). -/
theorem initialize128_machineInv (key iv : BitVec 128) {s : State} (hf : s.fault = 0) :
    MachineInv (initialize128 key iv s) :=
  ⟨fun _ => initRegs_cellsNonzero key iv, fun _ => rfl, by simp [FaultLegal, hf], by simp [ResponseAgrees, hf]⟩

/-- A draw from an initialized core without fault keeps the invariant (44_commands.md R91). -/
theorem drawWord_machineInv {s : State} (h : InitedCellsNonzero s) (hf : s.fault = 0) (hi : s.inited = true) :
    MachineInv (drawWord s) :=
  ⟨fun _ => roundWork_cellsNonzero (warmedRegs_cellsNonzero s.warm (h hi)), fun _ => hi, by simp [FaultLegal, hf],
    by simp [ResponseAgrees, hf, hi]⟩

/-- Every command keeps the invariant (44_commands.md R98). -/
theorem exec_machineInv {i : Instr} {s t : State} (h : MachineInv s) (ht : exec i s = .next t) : MachineInv t := by
  obtain ⟨t', ht', hcases⟩ := exec_cases i s
  obtain rfl := Host.Outcome.next.inj (ht'.symm.trans ht)
  have ⟨hcells, _, hfault, _⟩ := h
  rcases hcases with ⟨-, rfl⟩ | ⟨hf, -, rfl⟩ | ⟨hf, key, iv, -, rfl⟩ | ⟨hf, -, rfl⟩ | ⟨-, -, -, rfl⟩ |
    ⟨hf, hi, -, rfl⟩ | ⟨-, -, rfl⟩
  · exact respond_machineInv h (by rw [if_neg hfault])
  · exact respond_machineInv h hf
  · exact initialize128_machineInv key iv hf
  · exact respond_machineInv h hf
  · exact respond_setFault_machineInv h (by decide)
  · exact drawWord_machineInv hcells hf hi
  · exact respond_setFault_machineInv h (by decide)

/-- Settles O14: the move the step takes is idle, `rst` or a command, and each keeps the invariant. -/
theorem everyStepKeepsTheInvariant : Obligations.EveryStepKeepsTheInvariant := by
  intro s t h ht
  rcases step_cases s with ⟨-, hs⟩ | ⟨rest, -, hs⟩ | ⟨rest, -, hs⟩ | ⟨cw, rest, -, hs⟩
  · obtain rfl := Host.Outcome.next.inj (hs.symm.trans ht)
    exact portIdle_machineInv h
  · obtain rfl := Host.Outcome.next.inj (hs.symm.trans ht)
    exact portIdle_machineInv (s := { s with host := rest }) h
  · obtain rfl := Host.Outcome.next.inj (hs.symm.trans ht)
    exact hardwareReset_machineInv _
  · exact exec_machineInv (s := { s with host := rest }) h (hs.symm.trans ht)

/-- Settles O10: the three flags of the reset state (70_reset_and_hazards.md R131). -/
theorem resetStateFlags : Obligations.ResetStateFlags := ⟨rfl, rfl, rfl⟩

/-- Settles O13: the reset state is uninitialized and its port is empty. -/
theorem resetMeetsTheInvariant : Obligations.ResetMeetsTheInvariant := by
  obtain ⟨hi, hw, hf⟩ := resetStateFlags
  exact machineInv_of_uninited hi hw (by simp [hf]) rfl

end Sys2Proof.Laws
end

section
/-! What `INITED` and `FAULT` keep without `rst` (spec/10_state.md R19, R21, spec/60_exceptions.md R122, R123), and what
the response of a command depends on (spec/30_encoding.md R53, spec/10_state.md R29). -/

namespace Sys2Proof.Laws

open Machine

/-- A command leaves `INITED`, or it is a successful INIT on a core without fault and sets it (10_state.md R19). -/
theorem exec_inited {i : Instr} {s t : State} (ht : exec i s = .next t) :
    t.inited = s.inited ∨ (t.inited = true ∧ s.fault = 0 ∧ ∃ key iv, i = .init 16 16 key iv) := by
  obtain ⟨t', ht', hcases⟩ := exec_cases i s
  obtain rfl := Host.Outcome.next.inj (ht'.symm.trans ht)
  rcases hcases with ⟨-, rfl⟩ | ⟨-, -, rfl⟩ | ⟨hf, key, iv, hinit, rfl⟩ | ⟨-, -, rfl⟩ | ⟨-, -, -, rfl⟩ |
    ⟨-, -, -, rfl⟩ | ⟨-, -, rfl⟩
  case inr.inr.inl => exact .inr ⟨rfl, hf, key, iv, hinit⟩
  all_goals exact .inl rfl

/-- An idle move empties the response port and is taken from the schedule; nothing else changes (60_exceptions.md
R130). -/
theorem step_idle {s : State} {rest : List HostMove} (h : s.host = .idle :: rest) :
    step s = .next (portIdle { s with host := rest }) := by
  simp [step, nextMove_cons h]

/-- Settles O16: an idle step keeps the flags, and of the commands only a successful INIT writes `INITED`. -/
theorem onlyInitSetsInited : Obligations.OnlyInitSetsInited := by
  intro s t m rest hm hrst ht
  cases m with
  | rst => exact absurd rfl hrst
  | idle =>
    obtain rfl := Host.Outcome.next.inj ((step_idle hm).symm.trans ht)
    exact ⟨id, fun h h' => absurd (h.symm.trans h') (by decide)⟩
  | command cw =>
    rw [step_command hm] at ht
    rcases exec_inited ht with hkeep | ⟨hset, hf, key, iv, hinit⟩
    · exact ⟨hkeep.trans, fun h h' => absurd (h.symm.trans (hkeep.symm.trans h')) (by decide)⟩
    · exact ⟨fun _ => hset, fun _ _ => ⟨hf, cw, key, iv, rfl, hinit⟩⟩

/-- A faulted core only responds with the stored code, whatever the command (60_exceptions.md R122). -/
theorem exec_faulted (i : Instr) {s : State} (h : s.fault ≠ 0) : exec i s = .next (respond s.fault none s) := by
  cases i <;> exact congrArg Host.Outcome.next (unlessFaulted_faulted h)

/-- A step of a faulted core whose move is not `rst` writes nothing but the response port (60_exceptions.md R122,
R123). -/
theorem step_faulted {s : State} (h : s.fault ≠ 0) (hrst : HostMove.rst ∉ s.host.take 1) :
    ∃ rsp, step s = .next { s with rsp := rsp, host := s.host.tail } := by
  rcases step_cases s with ⟨hm, hs⟩ | ⟨rest, hm, hs⟩ | ⟨rest, hm, hs⟩ | ⟨cw, rest, hm, hs⟩
  · exact ⟨none, by simp [hs, portIdle, hm]⟩
  · exact ⟨none, by rw [hs, hm]; rfl⟩
  · simp [hm] at hrst
  · exact ⟨some { status := s.fault, z := none }, by rw [hs, hm]; exact exec_faulted _ h⟩

/-- A run of a faulted core without `rst` writes nothing but the response port (60_exceptions.md R122, R123). -/
theorem runSteps_faulted (k : Nat) {s : State} (h : s.fault ≠ 0) (hrst : HostMove.rst ∉ s.host.take k) :
    ∃ rsp, runSteps k s = .next { s with rsp := rsp, host := s.host.drop k } := by
  induction k generalizing s with
  | zero => exact ⟨s.rsp, rfl⟩
  | succ k ih =>
    have hfirst : HostMove.rst ∉ s.host.take 1 := fun hm => hrst (List.take_subset_take_left _ (by omega) hm)
    have hlater : HostMove.rst ∉ s.host.tail.take k :=
      fun hm => hrst (List.mem_of_mem_drop (i := 1) (by rwa [List.drop_take, List.drop_one, Nat.add_one_sub_one]))
    obtain ⟨rsp, hs⟩ := step_faulted h hfirst
    obtain ⟨rsp', hrun⟩ := ih (s := { s with rsp := rsp, host := s.host.tail }) h hlater
    exact ⟨rsp', by rw [runSteps_succ hs, hrun]; simp⟩

/-- Settles O17, by the equation for a run of a faulted core. -/
theorem fatalFaultHoldsUntilReset : Obligations.FatalFaultHoldsUntilReset := by
  intro k s t ht hrst hf
  obtain ⟨rsp, hrun⟩ := runSteps_faulted k hf hrst
  obtain rfl := Host.Outcome.next.inj (hrun.symm.trans ht)
  exact ⟨rfl, rfl, rfl, rfl⟩

/-- The status a command responds (30_encoding.md R53): it reads `FAULT` and `INITED` only. -/
def commandStatus (i : Instr) (s : State) : BitVec 2 :=
  if s.fault ≠ 0 then s.fault else
    match i with
    | .nop => 0
    | .init klen ivlen _ _ => if klen = 16 ∧ ivlen = 16 then 0 else 1
    | .next => if s.inited = true then 0 else 2
    | .rsvd => 3

/-- The word a command responds, if any (30_encoding.md R53, 44_commands.md R91). -/
def commandWord (i : Instr) (s : State) : Option Word :=
  if s.fault = 0 ∧ i = .next ∧ s.inited = true then some (roundWord (warmedRegs s.warm s.regs)) else none

/-- A faulted core responds its stored code (60_exceptions.md R122). -/
theorem commandStatus_faulted (i : Instr) {s : State} (h : s.fault ≠ 0) : commandStatus i s = s.fault := if_pos h

/-- A faulted core responds no word (60_exceptions.md R122). -/
theorem commandWord_faulted (i : Instr) {s : State} (h : s.fault ≠ 0) : commandWord i s = none := if_neg fun hn => h hn.1

/-- Only a NEXT responds a word (30_encoding.md R53). -/
theorem commandWord_of_ne_next {i : Instr} (s : State) (h : i ≠ .next) : commandWord i s = none :=
  if_neg fun hn => h hn.2.1

/-- The response of every command (30_encoding.md R53). -/
theorem exec_rsp {i : Instr} {s t : State} (ht : exec i s = .next t) :
    t.rsp = some { status := commandStatus i s, z := commandWord i s } := by
  obtain ⟨t', ht', hcases⟩ := exec_cases i s
  obtain rfl := Host.Outcome.next.inj (ht'.symm.trans ht)
  rcases hcases with ⟨hf, rfl⟩ | ⟨hf, rfl, rfl⟩ | ⟨hf, key, iv, rfl, rfl⟩ | ⟨hf, ⟨klen, ivlen, key, iv, rfl, hl⟩, rfl⟩ |
    ⟨hf, hi, rfl, rfl⟩ | ⟨hf, hi, rfl, rfl⟩ | ⟨hf, rfl, rfl⟩
  case inl => rw [commandStatus_faulted i hf, commandWord_faulted i hf, respond_rsp]
  all_goals simp [commandStatus, commandWord, *]

/-- Settles O27: the status does not read the data registers, and only a NEXT carries a word. -/
theorem onlyNextShowsTheRegisters : Obligations.OnlyNextShowsTheRegisters := by
  intro i s t t' r hi ht ht'
  rw [exec_rsp ht, exec_rsp ht', commandWord_of_ne_next _ hi, commandWord_of_ne_next _ hi]
  rfl

end Sys2Proof.Laws
end

section
/-! The substitution tables `S0` and `S1` are permutations of the byte values (spec/20_memory.md R37): a table of 16 rows
of 16 entries is its list of entries read in order, and a list of 256 distinct bytes holds every byte once. -/

namespace Sys2Proof.Laws

open Machine

/-- Row `n / 16`, column `n % 16` of a table with rows of 16 is entry `n` of its rows laid end to end. -/
theorem getD_getD_eq_flatten_getD {rows : List (List Byte)} (hrow : ∀ row ∈ rows, row.length = 16) (n : Nat) :
    (rows.getD (n / 16) []).getD (n % 16) 0 = rows.flatten.getD n 0 := by
  induction rows generalizing n with
  | nil => simp
  | cons row rows ih =>
    obtain ⟨hlen, hrest⟩ := List.forall_mem_cons.mp hrow
    rw [List.flatten_cons]
    rcases Nat.lt_or_ge n 16 with hn | hn
    · rw [List.getD_append _ _ _ _ (hlen ▸ hn), Nat.div_eq_of_lt hn, Nat.mod_eq_of_lt hn, List.getD_cons_zero]
    · rw [List.getD_append_right _ _ _ _ (hlen ▸ hn), hlen, ← ih hrest, Nat.div_eq_sub_div (by decide) hn,
        List.getD_cons_succ, Nat.mod_eq_sub_mod hn]

/-- A byte selects from a table the entry of that number (20_memory.md R33, R34). -/
theorem readRows_eq_flatten_getD {rows : List (List Byte)} (hrow : ∀ row ∈ rows, row.length = 16) (a : Byte) :
    readRows rows a = rows.flatten.getD a.toNat 0 :=
  getD_getD_eq_flatten_getD hrow a.toNat

/-- A table of 16 rows of 16 distinct entries is a permutation of the byte values: no two bytes select the same entry,
and there are as many entries as byte values. -/
theorem readRows_bijective {rows : List (List Byte)} (hlen : rows.length = 16) (hrow : ∀ row ∈ rows, row.length = 16)
    (hnodup : rows.flatten.Nodup) : Function.Bijective (readRows rows) := by
  have hsize : rows.flatten.length = 256 := by
    rw [List.length_flatten, List.map_congr_left hrow, List.map_const', List.sum_replicate, hlen]; rfl
  have hinj : Function.Injective (readRows rows) := by
    intro a b hab
    have ha : a.toNat < rows.flatten.length := hsize ▸ a.isLt
    have hb : b.toNat < rows.flatten.length := hsize ▸ b.isLt
    rw [readRows_eq_flatten_getD hrow, readRows_eq_flatten_getD hrow, List.getD_eq_getElem _ _ ha,
      List.getD_eq_getElem _ _ hb] at hab
    exact BitVec.eq_of_toNat_eq (hnodup.getElem_inj_iff.mp hab)
  exact Finite.injective_iff_bijective.mp hinj

/-- No byte stands twice in `S0` (20_memory.md R34, R37). -/
theorem rowsS0_flatten_nodup : rowsS0.flatten.Nodup := by decide +kernel

/-- No byte stands twice in `S1` (20_memory.md R35, R37). -/
theorem rowsS1_flatten_nodup : rowsS1.flatten.Nodup := by decide +kernel

/-- `S0` is a permutation of the byte values (20_memory.md R37). -/
theorem readS0_bijective : Function.Bijective readS0 := by
  obtain ⟨hlen, -, hrow, -, -⟩ := readRows_in_range
  exact readRows_bijective hlen hrow rowsS0_flatten_nodup

/-- `S1` is a permutation of the byte values (20_memory.md R37). -/
theorem readS1_bijective : Function.Bijective readS1 := by
  obtain ⟨-, hlen, -, hrow, -⟩ := readRows_in_range
  exact readRows_bijective hlen hrow rowsS1_flatten_nodup

/-- Settles O40: each table is a bijection on bytes, so every value has one index; the four named entries are read. -/
theorem substitutionTablesArePermutations : Obligations.SubstitutionTablesArePermutations :=
  ⟨readS0_bijective.existsUnique, readS1_bijective.existsUnique, by decide⟩

end Sys2Proof.Laws
end

section
/-! The command word read and written whole (spec/30_encoding.md R48 to R58): the decoder on numbers, the word assembled
from its own fields, and the opcode field as the word under the mask of the opcode map. -/

namespace Sys2Proof.Laws

open Machine

/-- The decoder on numbers reads a command word as the decoder on words does (30_encoding.md R48). -/
theorem decodeTableWord_toNat (nbits : Nat) (cw : CommandWord) : decodeTableWord nbits cw.toNat = some (decode cw) := by
  have hone : cw.toNat >>> 268 = 0 := Nat.shiftRight_eq_zero _ _ cw.isLt
  simp [decodeTableWord, decodeBits, hone]

/-- Settles O1: the round trip on words, which the decoder on numbers reads alike. -/
theorem decodeOfEncodeIsIdentity : Obligations.DecodeOfEncodeIsIdentity := by
  intro i h
  exact ⟨decode_encode h, by rw [decodeTableWord_toNat, decode_encode h]⟩

/-- Everything the decoder can answer, one case per opcode (30_encoding.md R50). -/
theorem decode_cases (cw : CommandWord) :
    (fieldOp cw = 0b00#2 ∧ decode cw = .nop) ∨
    (fieldOp cw = 0b01#2 ∧ decode cw =
      .init (fieldKlen cw).toNat (fieldIvlen cw).toNat (fieldKey cw) (fieldIv cw)) ∨
    (fieldOp cw = 0b10#2 ∧ decode cw = .next) ∨
    (fieldOp cw = 0b11#2 ∧ decode cw = .rsvd) := by
  have hops : ∀ op : BitVec 2, op = 0b00#2 ∨ op = 0b01#2 ∨ op = 0b10#2 ∨ op = 0b11#2 := by decide
  rcases hops (fieldOp cw) with h | h | h | h <;> simp [decode, h]

/-- A five-bit length field holds an encodable length (30_encoding.md R52). -/
theorem lengthEncodable_toNat (n : BitVec 5) : lengthEncodable n.toNat = true :=
  decide_eq_true (Nat.le_of_lt_succ n.isLt)

/-- Every command word decodes to a well-formed command (30_encoding.md R55). -/
theorem wellFormed_decode (cw : CommandWord) : WellFormed (decode cw) = true := by
  rcases decode_cases cw with ⟨-, h⟩ | ⟨-, h⟩ | ⟨-, h⟩ | ⟨-, h⟩ <;> simp [h, WellFormed, lengthEncodable_toNat]

/-- A command word is assembled from its own fields (30_encoding.md R49). -/
theorem assemble_fields (cw : CommandWord) :
    assemble (fieldOp cw) (fieldKlen cw) (fieldIvlen cw) (fieldKey cw) (fieldIv cw) = cw := by
  rw [assemble, fieldOp, fieldKlen, fieldIvlen, fieldKey, fieldIv,
    BitVec.extractLsb'_append_extractLsb'_eq_extractLsb' (show 266 = 261 + 5 from rfl),
    BitVec.extractLsb'_append_extractLsb'_eq_extractLsb' (show 261 = 256 + 5 from rfl),
    BitVec.extractLsb'_append_extractLsb'_eq_extractLsb' (show 256 = 128 + 128 from rfl),
    BitVec.extractLsb'_append_extractLsb'_eq_extractLsb' (show 128 = 0 + 128 from rfl)]
  exact BitVec.extractLsb'_eq_self

/-- A word assembled from an opcode and zeros is the opcode over 266 zeros (30_encoding.md R58). -/
theorem assemble_zero (op : BitVec 2) : assemble op 0 0 0 0 = op ++ (0 : BitVec 266) := by
  revert op; decide

/-- Under the mask of the opcode map only the opcode field remains (30_encoding.md R50). -/
theorem and_opcodeMask (cw : CommandWord) :
    cw &&& (0b11#2 ++ (0 : BitVec 266)) = fieldOp cw ++ (0 : BitVec 266) := by
  have hsplit : fieldOp cw ++ cw.extractLsb' 0 266 = cw :=
    (BitVec.extractLsb'_append_extractLsb'_eq_extractLsb' rfl).trans BitVec.extractLsb'_eq_self
  have hop : fieldOp cw &&& 0b11#2 = fieldOp cw := BitVec.and_allOnes
  have hlow : cw.extractLsb' 0 266 &&& (0 : BitVec 266) = 0 := BitVec.and_zero
  calc cw &&& (0b11#2 ++ (0 : BitVec 266))
    _ = (fieldOp cw ++ cw.extractLsb' 0 266) &&& (0b11#2 ++ (0 : BitVec 266)) := by rw [hsplit]
    _ = fieldOp cw ++ (0 : BitVec 266) := by rw [BitVec.and_append, hop, hlow]

/-- The match and mask of the opcode map test the opcode field (30_encoding.md R50). -/
theorem and_opcodeMask_eq_iff (cw : CommandWord) (op : BitVec 2) :
    cw &&& (0b11#2 ++ (0 : BitVec 266)) = op ++ (0 : BitVec 266) ↔ fieldOp cw = op := by
  rw [and_opcodeMask, BitVec.append_left_inj]

/-- Settles O2: an INIT word is assembled from its own fields, the other three from their opcode and zeros. -/
theorem encodeOfDecodeKeepsTheWord : Obligations.EncodeOfDecodeKeepsTheWord := by
  refine fun cw => ⟨wellFormed_decode cw, ?_⟩
  rcases decode_cases cw with ⟨hop, h⟩ | ⟨hop, h⟩ | ⟨hop, h⟩ | ⟨hop, h⟩
  case inr.inl =>
    rw [h, encode, BitVec.ofNat_toNat, BitVec.ofNat_toNat, BitVec.setWidth_eq, BitVec.setWidth_eq, ← hop,
      assemble_fields, if_pos rfl]
  all_goals rw [h, encode, assemble_zero, hop, if_neg (by decide)]

/-- Settles O3: the masked word gives the opcode field, and the decoder has one case per opcode. -/
theorem topTwoBitsSelectTheCommand : Obligations.TopTwoBitsSelectTheCommand := by
  intro cw
  simp only [and_opcodeMask_eq_iff]
  rcases decode_cases cw with ⟨hop, h⟩ | ⟨hop, h⟩ | ⟨hop, h⟩ | ⟨hop, h⟩ <;>
    simp [hop, h, fieldKlen, fieldIvlen, fieldKey, fieldIv]

/-- Byte `i` of a 128-bit field of a word is byte `i` counted from that field's top (30_encoding.md R51). -/
theorem fieldByte_extractLsb' (cw : CommandWord) (low : Nat) {i : Nat} (h : i < 16) :
    fieldByte (cw.extractLsb' low 128) i = cw.extractLsb' (low + 120 - 8 * i) 8 := by
  apply BitVec.eq_of_getLsbD_eq
  intro j hj
  have hin : 120 - 8 * i + j < 128 := by omega
  simp only [fieldByte, BitVec.getLsbD_extractLsb', hj, hin, decide_true, Bool.true_and]
  exact congrArg cw.getLsbD (by omega)

/-- Settles O4: key and IV are 128-bit fields at bits 128 and 0 of the word. -/
theorem keyAndIvBytesOfTheCommandWord : Obligations.KeyAndIvBytesOfTheCommandWord := by
  intro cw i h
  exact ⟨fieldByte_extractLsb' cw 128 h, by rw [fieldIv, fieldByte_extractLsb' cw 0 h, Nat.zero_add]⟩

/-- The decoder reads the opcode alone unless it is that of INIT (30_encoding.md R54). -/
theorem decode_congr_of_fieldOp {cw cw' : CommandWord} (h : fieldOp cw = fieldOp cw') (hinit : fieldOp cw ≠ 0b01#2) :
    decode cw = decode cw' := by
  have hinit' : fieldOp cw' ≠ 0b01#2 := h ▸ hinit
  simp only [decode, h, if_neg hinit']

/-- INIT with a wrong length only responds status 1 on a core without fault (30_encoding.md R54, 44_commands.md R90). -/
theorem exec_init_rejected {klen ivlen : Nat} (key iv : BitVec 128) (s : State) (h : ¬(klen = 16 ∧ ivlen = 16)) :
    exec (.init klen ivlen key iv) s = .next (unlessFaulted (respond 1 none) s) := by
  have hlen : ¬ lengthsAccepted klen ivlen = true := by rwa [lengthsAccepted_iff]
  simp only [exec, execInit, if_neg hlen, raiseFault_invalidLength]

/-- Settles O5: the decoder reads the opcode alone, and a rejected INIT reads its lengths alone. -/
theorem dontCareBitsChangeNothing : Obligations.DontCareBitsChangeNothing := by
  refine ⟨fun cw cw' h hinit => decode_congr_of_fieldOp h hinit, fun klen ivlen key iv key' iv' s h => ?_⟩
  rw [exec_init_rejected key iv s h, exec_init_rejected key' iv' s h]

/-- A word the encoder writes for a well-formed command decodes to it (30_encoding.md R60). -/
theorem decode_eq_of_encode_eq {i : Instr} {cw : CommandWord} (h : encode i = cw) (hwf : WellFormed i = true) :
    decode cw = i := h ▸ decode_encode hwf

/-- Settles O6: the encoder writes each word, and the round trip reads it back. -/
theorem workedEncodingsDecode : Obligations.WorkedEncodingsDecode :=
  ⟨rfl, rfl, rfl, rfl, rfl, rfl, rfl, decode_eq_of_encode_eq rfl rfl, decode_eq_of_encode_eq rfl rfl,
    decode_eq_of_encode_eq rfl rfl, decode_eq_of_encode_eq rfl rfl, decode_eq_of_encode_eq rfl rfl,
    decode_eq_of_encode_eq rfl rfl, decode_eq_of_encode_eq rfl rfl⟩

end Sys2Proof.Laws
end

section
/-! The bytes a driver packs into a field, one after another from byte 0 (30_encoding.md R51, R52, 49_host_transforms.md
R111). -/

namespace Sys2Proof.Laws

open Machine

/-- A field with one byte more, shifted in from below. -/
def shiftInByte (field : BitVec 128) (b : Byte) : BitVec 128 := (field <<< 8) ||| b.setWidth 128

/-- The first `n` bytes of a sequence as the low end of a field, the last of them lowest. -/
def packFirst (bytes : List Byte) : Nat → BitVec 128
  | 0 => 0
  | n + 1 => shiftInByte (packFirst bytes n) (bytes.getD n 0)

/-- The field of a driver is its first 16 bytes packed (30_encoding.md R52). -/
theorem packField_eq_packFirst (bytes : List Byte) : packField bytes = packFirst bytes 16 := rfl

/-- The byte shifted in stands lowest. -/
theorem shiftInByte_lowest (field : BitVec 128) (b : Byte) : (shiftInByte field b).extractLsb' 0 8 = b := by
  apply BitVec.eq_of_getLsbD_eq
  intro i hi
  simp [shiftInByte, hi, show i < 128 by omega]

/-- Every byte of the field but its topmost moves up by one place when a byte is shifted in. -/
theorem shiftInByte_above (field : BitVec 128) (b : Byte) {j : Nat} (h : j < 15) :
    (shiftInByte field b).extractLsb' (8 * (j + 1)) 8 = field.extractLsb' (8 * j) 8 := by
  apply BitVec.eq_of_getLsbD_eq
  intro i hi
  have hb : b.getLsbD (8 * (j + 1) + i) = false := BitVec.getLsbD_of_ge _ _ (by omega)
  have hin : 8 * (j + 1) + i < 128 := by omega
  have hmoved : ¬ 8 * (j + 1) + i < 8 := by omega
  have hfrom : 8 * (j + 1) + i - 8 = 8 * j + i := by omega
  simp only [shiftInByte, BitVec.getLsbD_extractLsb', BitVec.getLsbD_or, BitVec.getLsbD_shiftLeft,
    BitVec.getLsbD_setWidth, hi, hb, hin, hmoved, hfrom, decide_true, decide_false, Bool.not_false, Bool.true_and,
    Bool.and_false, Bool.or_false]

/-- Byte `i` of `n + 1 ≤ 16` packed bytes stands `n - i` places above the last. -/
theorem packFirst_byte (bytes : List Byte) {n i : Nat} (hn : n < 16) (hi : i ≤ n) :
    (packFirst bytes (n + 1)).extractLsb' (8 * (n - i)) 8 = bytes.getD i 0 := by
  induction n with
  | zero =>
    obtain rfl : i = 0 := by omega
    exact shiftInByte_lowest _ _
  | succ n ih =>
    rcases Nat.le_or_eq_of_le_succ hi with hle | rfl
    · rw [Nat.succ_sub hle, packFirst, shiftInByte_above _ _ (by omega), ih (by omega) hle]
    · rw [Nat.sub_self]; exact shiftInByte_lowest _ _

/-- Byte `i` of the field a driver packs is byte `i` of the sequence (30_encoding.md R51, R52). -/
theorem fieldByte_packField (bytes : List Byte) {i : Nat} (h : i < 16) :
    fieldByte (packField bytes) i = bytes.getD i 0 := by
  have hpos : 120 - 8 * i = 8 * (15 - i) := by omega
  rw [fieldByte, packField_eq_packFirst, hpos, packFirst_byte bytes (by decide) (by omega)]

/-- Settles O55: the length test, and the bytes of the packed fields. -/
theorem driverCarriesLengthsAndBytes : Obligations.DriverCarriesLengthsAndBytes := by
  intro key iv
  constructor
  · intro hkey hiv
    exact ⟨packField key, packField iv, if_pos ⟨hkey, hiv⟩, fun i hi _ => fieldByte_packField key hi,
      fun i hi _ => fieldByte_packField iv hi⟩
  · intro hlong
    exact if_neg (by omega)

end Sys2Proof.Laws
end

section
/-! The response of every command is that of the response table (spec/30_encoding.md R53). -/

namespace Sys2Proof.Laws

open Machine

/-- A NEXT on a core that is ready responds `W XOR X3` of the one round, or of the second when the warm-up round has not
run (44_commands.md R91). -/
theorem roundWord_warmedRegs (warm : Bool) (r : Regs) :
    some (roundWord (warmedRegs warm r)) =
      if warm = true then some ((roundF r).w ^^^ (bitReorg r.cells).x3)
      else some ((roundF (roundWork r)).w ^^^ (bitReorg (roundWork r).cells).x3) := by
  cases warm <;> rfl

/-- Settles O25: the response of every command, its word drawn by the round after the warm-up. -/
theorem everyCommandRespondsByTheTable : Obligations.EveryCommandRespondsByTheTable :=
  fun _ _ _ ht => ⟨_, exec_rsp ht, rfl, by rw [commandWord, roundWord_warmedRegs]⟩

end Sys2Proof.Laws
end

section
/-! The arithmetic primitives as arithmetic (spec/40_arith31.md R63 to R65): the rotations move digits, and ADD31 and ROT31
are the sum and the multiplication by a power of two modulo `P = 2^31 - 1`, which has one representative among the
non-zero cells. -/

namespace Sys2Proof.Laws

open Machine

/-- A left rotation by `k` moves the low `w - k` bits up by `k` and brings the top `k` bits round to the bottom. -/
theorem toNat_rotateLeft_eq_add {w k : Nat} (x : BitVec w) (h : k < w) :
    (x.rotateLeft k).toNat = x.toNat % 2 ^ (w - k) * 2 ^ k + x.toNat / 2 ^ (w - k) := by
  have hpow : 2 ^ (w - k) * 2 ^ k = 2 ^ w := Nat.pow_sub_mul_pow 2 h.le
  have hhigh : x.toNat / 2 ^ (w - k) < 2 ^ k := Nat.div_lt_of_lt_mul (hpow ▸ x.isLt)
  have hlow : x.toNat <<< k % 2 ^ w = (x.toNat % 2 ^ (w - k)) <<< k := by
    rw [Nat.shiftLeft_eq, Nat.shiftLeft_eq, ← hpow, Nat.mul_mod_mul_right]
  rw [BitVec.toNat_rotateLeft, Nat.mod_eq_of_lt h, hlow, Nat.shiftRight_eq_div_pow,
    ← Nat.shiftLeft_add_eq_or_of_lt hhigh, Nat.shiftLeft_eq]

/-- Settles O31: ROT32 is the rotation of 32 bits. -/
theorem rot32IsALeftRotation : Obligations.Rot32IsALeftRotation := by
  intro x k _ hk
  rw [rot32_eq_rotateLeft x k (by omega), toNat_rotateLeft_eq_add x (by omega)]

/-- A non-zero cell is in `[1, P]` (10_state.md R17). -/
theorem toNat_pos_of_ne_zero {a : Cell} (h : a ≠ 0) : 1 ≤ a.toNat :=
  Nat.pos_of_ne_zero fun h0 => h (BitVec.eq_of_toNat_eq h0)

/-- Every residue modulo `P` has one representative in `[1, P]`, the non-zero cells. -/
theorem cell_eq_of_modEq {a b : Cell} (ha : a ≠ 0) (hb : b ≠ 0) (h : a.toNat ≡ b.toNat [MOD 2 ^ 31 - 1]) : a = b := by
  have ha1 := toNat_pos_of_ne_zero ha
  have hb1 := toNat_pos_of_ne_zero hb
  have ha31 := a.isLt
  have hb31 := b.isLt
  apply BitVec.eq_of_toNat_eq
  unfold Nat.ModEq at h
  omega

/-- ADD31 is the low 31 bits of the sum plus its bit 31 (40_arith31.md R63). -/
theorem add31_toNat_eq_mod_add_div (a b : Cell) :
    (add31 a b).toNat = (a.toNat + b.toNat) % 2 ^ 31 + (a.toNat + b.toNat) / 2 ^ 31 := by
  have ha := a.isLt
  have hb := b.isLt
  rw [add31_toNat]
  split <;> omega

/-- ADD31 is the sum modulo `P` (40_arith31.md R63). -/
theorem add31_modEq (a b : Cell) : (add31 a b).toNat ≡ a.toNat + b.toNat [MOD 2 ^ 31 - 1] := by
  rw [add31_toNat, Nat.ModEq]
  split <;> omega

/-- A sum below `2^31` is not folded, so a sum of `P` stays `P` (40_arith31.md R63, R69). -/
theorem add31_toNat_of_lt {a b : Cell} (h : a.toNat + b.toNat < 2 ^ 31) : (add31 a b).toNat = a.toNat + b.toNat := by
  rw [add31_toNat, if_pos h]

/-- 0 is neutral for ADD31 (40_arith31.md R63). -/
theorem add31_zero (a : Cell) : add31 a 0 = a :=
  BitVec.eq_of_toNat_eq (add31_toNat_of_lt a.isLt)

/-- ADD31 is commutative on all cells (40_arith31.md R63). -/
theorem add31_comm (a b : Cell) : add31 a b = add31 b a := by
  apply BitVec.eq_of_toNat_eq
  rw [add31_toNat, add31_toNat, Nat.add_comm]

/-- ADD31 is associative on `[1, P]`: both sides are non-zero and congruent to the sum (40_arith31.md R63). -/
theorem add31_assoc {a b : Cell} (c : Cell) (ha : a ≠ 0) : add31 (add31 a b) c = add31 a (add31 b c) := by
  apply cell_eq_of_modEq (add31_ne_zero c (add31_ne_zero b ha)) (add31_ne_zero _ ha)
  calc (add31 (add31 a b) c).toNat
    _ ≡ (add31 a b).toNat + c.toNat [MOD 2 ^ 31 - 1] := add31_modEq _ c
    _ ≡ a.toNat + b.toNat + c.toNat [MOD 2 ^ 31 - 1] := (add31_modEq a b).add_right _
    _ = a.toNat + (b.toNat + c.toNat) := Nat.add_assoc ..
    _ ≡ a.toNat + (add31 b c).toNat [MOD 2 ^ 31 - 1] := (add31_modEq b c).symm.add_left _
    _ ≡ (add31 a (add31 b c)).toNat [MOD 2 ^ 31 - 1] := (add31_modEq a _).symm

/-- Settles O29: the fold as a number, and associativity by the one representative in `[1, P]`. -/
theorem add31IsTheUnreducedModularSum : Obligations.Add31IsTheUnreducedModularSum := by
  refine ⟨fun a b => ⟨add31_toNat_eq_mod_add_div a b, add31_modEq a b, add31_eq_zero_iff a b, ?_, add31_zero a, ?_,
    add31_comm a b⟩, fun a b c ha _ _ => add31_assoc c ha⟩
  · intro hsum
    exact BitVec.eq_of_toNat_eq ((add31_toNat_of_lt (by omega)).trans hsum)
  · intro ha _
    exact ⟨toNat_pos_of_ne_zero (add31_ne_zero b ha), Nat.le_sub_one_of_lt (add31 a b).isLt⟩

/-- ROT31 moves the low `31 - k` bits up by `k` and brings the top `k` bits round to the bottom (40_arith31.md R64). -/
theorem rot31_toNat (x : Cell) {k : Nat} (h : k < 31) :
    (rot31 x k).toNat = x.toNat % 2 ^ (31 - k) * 2 ^ k + x.toNat / 2 ^ (31 - k) := by
  rw [rot31_eq_rotateLeft x k h, toNat_rotateLeft_eq_add x h]

/-- ROT31 of 0 is 0 (40_arith31.md R64). -/
theorem rot31_zero {k : Nat} (h : k < 31) : rot31 0 k = 0 :=
  BitVec.eq_of_toNat_eq ((rot31_toNat 0 h).trans (by simp))

/-- ROT31 keeps non-zero cells non-zero: both parts it moves would be 0 (40_arith31.md R64). -/
theorem rot31_ne_zero {x : Cell} {k : Nat} (h : k < 31) (hx : x ≠ 0) : rot31 x k ≠ 0 := by
  intro h0
  have hsum : x.toNat % 2 ^ (31 - k) * 2 ^ k + x.toNat / 2 ^ (31 - k) = 0 := by
    rw [← rot31_toNat x h, h0]; rfl
  obtain ⟨hlow, hhigh⟩ := Nat.add_eq_zero_iff.1 hsum
  have hmod : x.toNat % 2 ^ (31 - k) = 0 := (Nat.mul_eq_zero.1 hlow).resolve_right (by positivity)
  have hdiv := Nat.div_add_mod' x.toNat (2 ^ (31 - k))
  rw [hmod, hhigh, Nat.zero_mul] at hdiv
  exact hx (BitVec.eq_of_toNat_eq hdiv.symm)

/-- ROT31 is multiplication by `2^k` modulo `P` on all cells: the top part weighs `2^31`, which is 1 modulo `P`
(40_arith31.md R64). -/
theorem rot31_modEq (x : Cell) {k : Nat} (h : k < 31) : (rot31 x k).toNat ≡ x.toNat * 2 ^ k [MOD 2 ^ 31 - 1] := by
  have hpow : 2 ^ (31 - k) * 2 ^ k = 2 ^ 31 := Nat.pow_sub_mul_pow 2 h.le
  have hone : 1 ≡ 2 ^ 31 [MOD 2 ^ 31 - 1] := by decide
  calc (rot31 x k).toNat
    _ = x.toNat % 2 ^ (31 - k) * 2 ^ k + x.toNat / 2 ^ (31 - k) * 1 := by rw [rot31_toNat x h, Nat.mul_one]
    _ ≡ x.toNat % 2 ^ (31 - k) * 2 ^ k + x.toNat / 2 ^ (31 - k) * 2 ^ 31 [MOD 2 ^ 31 - 1] :=
      (hone.mul_left _).add_left _
    _ = (x.toNat / 2 ^ (31 - k) * 2 ^ (31 - k) + x.toNat % 2 ^ (31 - k)) * 2 ^ k := by rw [← hpow]; ring
    _ = x.toNat * 2 ^ k := by rw [Nat.div_add_mod']

/-- ROT31 keeps the unreduced representative `P`, the one non-zero cell congruent to 0 (40_arith31.md R64). -/
theorem rot31_allOnes {k : Nat} (h : k < 31) : rot31 0x7FFFFFFF#31 k = 0x7FFFFFFF#31 := by
  apply cell_eq_of_modEq (rot31_ne_zero h (by decide)) (by decide)
  calc (rot31 0x7FFFFFFF#31 k).toNat
    _ ≡ (2 ^ 31 - 1) * 2 ^ k [MOD 2 ^ 31 - 1] := rot31_modEq _ h
    _ ≡ 2 ^ 31 - 1 [MOD 2 ^ 31 - 1] := by simp [Nat.ModEq]

/-- ROT31 of a reduced cell is reduced: `P` is odd, so `P` divides `x * 2^k` only when it divides `x`
(40_arith31.md R64). -/
theorem rot31_toNat_lt {x : Cell} {k : Nat} (h : k < 31) (hx : x.toNat < 2 ^ 31 - 1) :
    (rot31 x k).toNat < 2 ^ 31 - 1 := by
  refine lt_of_le_of_ne (Nat.le_sub_one_of_lt (rot31 x k).isLt) fun hP => ?_
  have hdvd : 2 ^ 31 - 1 ∣ x.toNat * 2 ^ k := ((rot31_modEq x h).dvd_iff dvd_rfl).1 (dvd_of_eq hP.symm)
  have hodd : Nat.Coprime (2 ^ 31 - 1) (2 ^ k) := Nat.Coprime.pow_right k (by decide)
  have hx0 : x = 0 := BitVec.eq_of_toNat_eq (Nat.eq_zero_of_dvd_of_lt (hodd.dvd_of_dvd_mul_right hdvd) hx)
  rw [hx0, rot31_zero h] at hP
  exact absurd hP (by decide)

/-- Settles O30: the moved digits, and multiplication by `2^k` modulo `P` with each representative kept. -/
theorem rot31MultipliesByAPowerOfTwo : Obligations.Rot31MultipliesByAPowerOfTwo := by
  intro x k _ hk
  have h : k < 31 := by omega
  refine ⟨rot31_toNat x h, rot31_ne_zero h, ?_, ?_⟩
  · intro hx
    rw [← rot31_modEq x h, Nat.mod_eq_of_lt (rot31_toNat_lt h hx)]
  · rintro rfl
    exact rot31_allOnes h

end Sys2Proof.Laws
end

section
/-! The shift register as arithmetic (spec/41_lfsr.md R70 to R76): a loaded cell packs its three fields, and an advance
appends the linear recurrence modulo `P = 2^31 - 1` to the cells, none of which becomes 0. -/

namespace Sys2Proof.Laws

open Machine

/-- LOADCELLS writes the loaded cell of each number (41_lfsr.md R70). -/
theorem loadCells_getElem (key iv : BitVec 128) (i : Fin 16) : (loadCells key iv)[i] = loadedCell key iv i :=
  Vector.getElem_ofFn i.isLt

/-- Settles O32: the concatenated fields are the fields shifted into place and joined by OR. -/
theorem loadedCellPacksKeyConstantAndIv : Obligations.LoadedCellPacksKeyConstantAndIv := by
  intro key iv i
  calc (loadCells key iv)[i]
    _ = (fieldByte key i ++ readD i ++ fieldByte iv i).setWidth 31 :=
      (loadCells_getElem key iv i).trans (BitVec.setWidth_eq _).symm
    _ = _ := BitVec.setWidth_append_append_eq_shiftLeft_setWidth_or

/-- Settles O33: SHIFT cell by cell. -/
theorem shiftMovesEveryCellDown : Obligations.ShiftMovesEveryCellDown := by
  refine fun s f => ⟨fun i => ?_, shiftCells_getElem s f 15⟩
  have hi : i.val + 1 < 16 := Nat.succ_lt_succ i.isLt
  exact (shiftCells_getElem s f i.castSucc).trans (dif_pos hi)

/-- Settles O36: 0 is neutral for the ADD31 that folds the input of an initialization-mode advance. -/
theorem workAdvanceIsInitAdvanceWithZero : Obligations.WorkAdvanceIsInitAdvanceWithZero := by
  intro s
  rw [lfsrWork, lfsrInit, add31_zero]

/-- A non-zero cell is in `[1, P]`, both ends of the range (10_state.md R17). -/
theorem toNat_mem_range_of_ne_zero {a : Cell} (h : a ≠ 0) : 1 ≤ a.toNat ∧ a.toNat ≤ 2 ^ 31 - 1 :=
  ⟨toNat_pos_of_ne_zero h, Nat.le_sub_one_of_lt a.isLt⟩

/-- A cell in `[1, P]` is non-zero (10_state.md R17). -/
theorem ne_zero_of_toNat_pos {a : Cell} (h : 1 ≤ a.toNat) : a ≠ 0 := by
  rintro rfl
  exact absurd h (by decide)

/-- Settles O15: the cells in `[1, P]` are the non-zero ones, and neither the load nor an advance brings a zero in. -/
theorem cellsNeverBecomeZero : Obligations.CellsNeverBecomeZero := by
  refine ⟨fun key iv i => toNat_mem_range_of_ne_zero (loadCells_ne_zero key iv i), fun s hs => ?_⟩
  have hs0 : ∀ i : Fin 16, s[i] ≠ 0 := fun i => ne_zero_of_toNat_pos (hs i)
  exact ⟨fun u i => toNat_mem_range_of_ne_zero (lfsrInit_ne_zero u hs0 i),
    fun i => toNat_mem_range_of_ne_zero (lfsrWork_ne_zero hs0 i)⟩

/-- The linear combination of five cells that both advance modes share, before its reduction modulo `P`
(41_lfsr.md R72, R75). -/
def linearCombination (s : Vector Cell 16) : Nat :=
  2 ^ 15 * s[15].toNat + 2 ^ 17 * s[13].toNat + 2 ^ 21 * s[10].toNat + 2 ^ 20 * s[4].toNat + (1 + 2 ^ 8) * s[0].toNat

/-- Folding a rotated cell into `f` adds the cell times `2^k` to what `f` stands for (41_lfsr.md R72). -/
theorem add31_rot31_modEq {f : Cell} {n k : Nat} (x : Cell) (hk : k < 31) (hf : f.toNat ≡ n [MOD 2 ^ 31 - 1]) :
    (add31 f (rot31 x k)).toNat ≡ n + x.toNat * 2 ^ k [MOD 2 ^ 31 - 1] :=
  (add31_modEq f _).trans (hf.add (rot31_modEq x hk))

/-- FEEDBACK is the linear combination modulo `P`, fold by fold (41_lfsr.md R72). -/
theorem feedback_modEq (s : Vector Cell 16) : (feedback s).toNat ≡ linearCombination s [MOD 2 ^ 31 - 1] := by
  have h0 : s[0].toNat ≡ s[0].toNat [MOD 2 ^ 31 - 1] := Nat.ModEq.rfl
  have h1 := add31_rot31_modEq (k := 8) s[0] (by decide) h0
  have h2 := add31_rot31_modEq (k := 20) s[4] (by decide) h1
  have h3 := add31_rot31_modEq (k := 21) s[10] (by decide) h2
  have h4 := add31_rot31_modEq (k := 17) s[13] (by decide) h3
  have h5 := add31_rot31_modEq (k := 15) s[15] (by decide) h4
  calc (feedback s).toNat
    _ ≡ s[0].toNat + s[0].toNat * 2 ^ 8 + s[4].toNat * 2 ^ 20 + s[10].toNat * 2 ^ 21 + s[13].toNat * 2 ^ 17 +
        s[15].toNat * 2 ^ 15 [MOD 2 ^ 31 - 1] := h5
    _ = linearCombination s := by rw [linearCombination]; ring

/-- Settles O34: the folds, each a term of the linear combination modulo `P`, from a cell 0 that is not 0. -/
theorem feedbackFoldsSixTerms : Obligations.FeedbackFoldsSixTerms :=
  fun s => ⟨rfl, feedback_modEq s, fun h0 _ _ _ _ => toNat_mem_range_of_ne_zero (feedback_ne_zero h0)⟩

/-- Settles O35: cell 15 after an advance is the feedback, with `u` folded in by an initialization-mode advance. -/
theorem advanceIsTheModularRecurrence : Obligations.AdvanceIsTheModularRecurrence := by
  intro s u
  have hwork : (lfsrWork s)[15] = feedback s := shiftCells_getElem s _ 15
  have hinit : (lfsrInit s u)[15] = add31 (feedback s) u := shiftCells_getElem s _ 15
  rw [hwork, hinit]
  exact ⟨feedback_modEq s, (add31_modEq (feedback s) u).trans ((feedback_modEq s).add_right u.toNat)⟩

end Sys2Proof.Laws
end

section
/-! The bit-reorganization network as shifts and masks (spec/42_bitreorg.md R77): widened to a word, each half of a cell
is one shift or one mask, and concatenation is a shift and an OR. -/

namespace Sys2Proof.Laws

open Machine

/-- In 32 bits the high half of a cell is the cell shifted right by 15: bit 30 is a cell's top bit, so nothing is left
to mask (42_bitreorg.md R77). -/
theorem highHalf_setWidth (c : Cell) : (highHalf c).setWidth 32 = c.setWidth 32 >>> 15 := by
  have hfits : c.toNat >>> 15 < 2 ^ 16 := BitVec.toNat_ushiftRight_lt c 15 (by decide)
  apply BitVec.eq_of_toNat_eq
  rw [highHalf, BitVec.toNat_setWidth_of_le (by decide), BitVec.extractLsb'_toNat, Nat.mod_eq_of_lt hfits,
    BitVec.toNat_ushiftRight, BitVec.toNat_setWidth_of_le (by decide)]

/-- In 32 bits the low half of a cell is the cell under the mask `0xFFFF` (42_bitreorg.md R77). -/
theorem lowHalf_setWidth (c : Cell) : (lowHalf c).setWidth 32 = c.setWidth 32 &&& 0xFFFF#32 := by
  have hmask : (0xFFFF#32).toNat = 2 ^ 16 - 1 := rfl
  apply BitVec.eq_of_toNat_eq
  rw [lowHalf, BitVec.toNat_setWidth_of_le (by decide), BitVec.extractLsb'_toNat, Nat.shiftRight_zero, BitVec.toNat_and,
    BitVec.toNat_setWidth_of_le (by decide), hmask, Nat.and_two_pow_sub_one_eq_mod]

/-- A word of two halves is the first half shifted to the top, ORed with the second (42_bitreorg.md R77). -/
theorem append_halves_eq_shiftLeft_or (a b : BitVec 16) : a ++ b = (a.setWidth 32 <<< 16) ||| b.setWidth 32 :=
  (BitVec.setWidth_eq (a ++ b)).symm.trans BitVec.setWidth_append_eq_shiftLeft_setWidth_or

/-- Settles O37: each of the four words is two halves side by side, and each half is a shift or a mask of its cell. -/
theorem bitReorgByShifts : Obligations.BitReorgByShifts := by
  intro s
  have hhighLow (a b : Cell) :
      highHalf a ++ lowHalf b = ((a.setWidth 32 >>> 15) <<< 16) ||| (b.setWidth 32 &&& 0xFFFF#32) := by
    rw [append_halves_eq_shiftLeft_or, highHalf_setWidth, lowHalf_setWidth]
  have hlowHigh (a b : Cell) :
      lowHalf a ++ highHalf b = ((a.setWidth 32 &&& 0xFFFF#32) <<< 16) ||| (b.setWidth 32 >>> 15) := by
    rw [append_halves_eq_shiftLeft_or, lowHalf_setWidth, highHalf_setWidth]
  exact ⟨hhighLow s[15] s[14], hlowHigh s[11] s[9], hlowHigh s[7] s[5], hlowHigh s[2] s[0]⟩

end Sys2Proof.Laws
end

section
/-! XORs of left rotations of one word (spec/43_f_function.md R80, R81). Composed with itself, an XOR of rotations
doubles every amount: the cross terms occur twice and cancel. After five doublings every amount is a multiple of 32, so
an XOR of an odd number of rotations of a 32-bit word, applied 32 times, is the identity. -/

namespace Sys2Proof.Laws

open Machine

/-- Rotation is linear over XOR. -/
theorem rotateLeft_xor {w : Nat} (x y : BitVec w) (k : Nat) :
    (x ^^^ y).rotateLeft k = x.rotateLeft k ^^^ y.rotateLeft k := by
  apply BitVec.eq_of_getMsbD_eq
  intro i hi
  simp [BitVec.getMsbD_rotateLeft, hi]

/-- Rotations of one word compose by adding their amounts. -/
theorem rotateLeft_rotateLeft {w : Nat} (x : BitVec w) (j k : Nat) :
    (x.rotateLeft j).rotateLeft k = x.rotateLeft (j + k) := by
  apply BitVec.eq_of_getMsbD_eq
  intro i hi
  have hlt : (k + i) % w < w := Nat.mod_lt _ (by omega)
  simp [BitVec.getMsbD_rotateLeft, hi, hlt, Nat.add_assoc]

/-- A rotation by a multiple of the width changes nothing. -/
theorem rotateLeft_width_mul {w : Nat} (x : BitVec w) (k : Nat) : x.rotateLeft (w * k) = x := by
  rw [← BitVec.rotateLeft_mod_eq_rotateLeft, Nat.mul_mod_right]
  exact BitVec.eq_of_getMsbD_eq fun i hi => by simp [BitVec.getMsbD_rotateLeft, hi, Nat.mod_eq_of_lt hi]

/-- Every rotation keeps the word of all ones. -/
theorem rotateLeft_allOnes (w k : Nat) : (BitVec.allOnes w).rotateLeft k = BitVec.allOnes w := by
  apply BitVec.eq_of_getMsbD_eq
  intro i hi
  simp [BitVec.getMsbD_rotateLeft, hi, Nat.mod_lt _ (Nat.zero_lt_of_lt hi)]

/-- The XOR of the left rotations of a word by the amounts of a list. -/
def xorRotations {w : Nat} (ks : List Nat) (x : BitVec w) : BitVec w :=
  match ks with
  | [] => 0#w
  | k :: ks => x.rotateLeft k ^^^ xorRotations ks x

section

variable {w : Nat} (ks : List Nat) (x y : BitVec w)

@[simp] theorem xorRotations_nil : xorRotations [] x = 0#w := rfl

@[simp] theorem xorRotations_cons (k : Nat) : xorRotations (k :: ks) x = x.rotateLeft k ^^^ xorRotations ks x := rfl

/-- An XOR of rotations is linear over XOR. -/
theorem xorRotations_xor : xorRotations ks (x ^^^ y) = xorRotations ks x ^^^ xorRotations ks y := by
  induction ks with
  | nil => simp
  | cons k ks ih => simp only [xorRotations_cons, rotateLeft_xor, ih]; ac_rfl

/-- An XOR of rotations commutes with a rotation. -/
theorem xorRotations_rotateLeft (k : Nat) : xorRotations ks (x.rotateLeft k) = (xorRotations ks x).rotateLeft k := by
  induction ks with
  | nil => exact BitVec.eq_of_getMsbD_eq fun i hi => by simp [BitVec.getMsbD_rotateLeft]
  | cons j ks ih =>
    rw [xorRotations_cons, xorRotations_cons, rotateLeft_xor, ih, rotateLeft_rotateLeft, rotateLeft_rotateLeft,
      Nat.add_comm]

/-- Composing an XOR of rotations with itself doubles every amount: over XOR the cross terms cancel. -/
theorem xorRotations_self : xorRotations ks (xorRotations ks x) = xorRotations (ks.map (2 * ·)) x := by
  induction ks with
  | nil => rfl
  | cons k ks ih =>
    have hcross (a b c : BitVec w) : a ^^^ b ^^^ (b ^^^ c) = a ^^^ c := by
      rw [BitVec.xor_assoc, ← BitVec.xor_assoc b b, BitVec.xor_self, BitVec.zero_xor]
    calc xorRotations (k :: ks) (xorRotations (k :: ks) x)
      _ = (x.rotateLeft k).rotateLeft k ^^^ (xorRotations ks x).rotateLeft k ^^^
            ((xorRotations ks x).rotateLeft k ^^^ xorRotations ks (xorRotations ks x)) := by
        simp only [xorRotations_cons, rotateLeft_xor, xorRotations_xor, xorRotations_rotateLeft]
      _ = x.rotateLeft (2 * k) ^^^ xorRotations (ks.map (2 * ·)) x := by
        rw [hcross, ih, rotateLeft_rotateLeft, Nat.two_mul]

/-- Applied `2^n` times, an XOR of rotations has every amount multiplied by `2^n`. -/
theorem xorRotations_iterate_two_pow (n : Nat) :
    (xorRotations ks)^[2 ^ n] x = xorRotations (ks.map (2 ^ n * ·)) x := by
  induction n generalizing x with
  | zero => simp
  | succ n ih =>
    calc (xorRotations ks)^[2 ^ (n + 1)] x
      _ = (xorRotations ks)^[2 ^ n] ((xorRotations ks)^[2 ^ n] x) := by
        rw [Nat.pow_succ, Nat.mul_two, Function.iterate_add_apply]
      _ = xorRotations ((ks.map (2 ^ n * ·)).map (2 * ·)) x := by rw [ih, ih, xorRotations_self]
      _ = xorRotations (ks.map (2 ^ (n + 1) * ·)) x := by
        simp [List.map_map, Function.comp_def, Nat.pow_succ', Nat.mul_assoc]

variable {ks x}

/-- When each rotation keeps the word, equal terms cancel in pairs, and one is left of an odd number. -/
theorem xorRotations_of_fixed (h : ∀ k ∈ ks, x.rotateLeft k = x) :
    xorRotations ks x = if Odd ks.length then x else 0#w := by
  induction ks with
  | nil => simp
  | cons k ks ih =>
    obtain ⟨hk, hks⟩ := List.forall_mem_cons.mp h
    rw [xorRotations_cons, hk, ih hks, List.length_cons]
    by_cases hodd : Odd ks.length <;> simp [hodd, Nat.odd_add_one]

/-- An XOR of an odd number of rotations keeps the word of all ones. -/
theorem xorRotations_allOnes (hodd : Odd ks.length) : xorRotations ks (BitVec.allOnes w) = BitVec.allOnes w := by
  rw [xorRotations_of_fixed fun k _ => rotateLeft_allOnes w k, if_pos hodd]

/-- Applied 32 times to a 32-bit word, an XOR of an odd number of rotations is the identity. -/
theorem xorRotations_iterate_width (hodd : Odd ks.length) (x : Word) : (xorRotations ks)^[32] x = x := by
  have hfixed : ∀ k ∈ ks.map (2 ^ 5 * ·), x.rotateLeft k = x := by
    intro k hk
    obtain ⟨j, -, rfl⟩ := List.mem_map.mp hk
    exact rotateLeft_width_mul x j
  calc (xorRotations ks)^[2 ^ 5] x
    _ = xorRotations (ks.map (2 ^ 5 * ·)) x := xorRotations_iterate_two_pow ks x 5
    _ = x := by rw [xorRotations_of_fixed hfixed, List.length_map, if_pos hodd]

/-- An XOR of an odd number of rotations is a bijection on 32-bit words: its inverse is itself, applied 31 times. -/
theorem xorRotations_bijective (hodd : Odd ks.length) : Function.Bijective (xorRotations ks : Word → Word) := by
  have hid := xorRotations_iterate_width hodd
  exact Function.bijective_iff_has_inverse.mpr ⟨(xorRotations ks)^[31], hid,
    fun x => (Function.iterate_succ_apply' _ 31 x).symm.trans (hid x)⟩

end

end Sys2Proof.Laws
end

section
/-! The transforms `L1` and `L2`, the lookup engine and F (spec/43_f_function.md R80 to R84). -/

namespace Sys2Proof.Laws

open Machine

/-- `L1` by the library's rotation (43_f_function.md R80, 40_arith31.md R65). -/
theorem diffuse1_eq_rotateLeft (x : Word) :
    diffuse1 x = x ^^^ x.rotateLeft 2 ^^^ x.rotateLeft 10 ^^^ x.rotateLeft 18 ^^^ x.rotateLeft 24 := by
  simp [diffuse1, rot32_eq_rotateLeft]

/-- `L2` by the library's rotation (43_f_function.md R81, 40_arith31.md R65). -/
theorem diffuse2_eq_rotateLeft (x : Word) :
    diffuse2 x = x ^^^ x.rotateLeft 8 ^^^ x.rotateLeft 14 ^^^ x.rotateLeft 22 ^^^ x.rotateLeft 30 := by
  simp [diffuse2, rot32_eq_rotateLeft]

/-- A word XORed with four of its rotations is an XOR of five rotations, the first by 0. -/
theorem xor_rotateLeft_eq_xorRotations (x : Word) (i j k l : Nat) :
    x ^^^ x.rotateLeft i ^^^ x.rotateLeft j ^^^ x.rotateLeft k ^^^ x.rotateLeft l = xorRotations [0, i, j, k, l] x := by
  have hzero : x.rotateLeft 0 = x := rotateLeft_width_mul x 0
  simp [hzero, BitVec.xor_assoc]

/-- `L1` is an XOR of five rotations (43_f_function.md R80). -/
theorem diffuse1_eq_xorRotations : diffuse1 = xorRotations [0, 2, 10, 18, 24] :=
  funext fun x => (diffuse1_eq_rotateLeft x).trans (xor_rotateLeft_eq_xorRotations x 2 10 18 24)

/-- `L2` is an XOR of five rotations (43_f_function.md R81). -/
theorem diffuse2_eq_xorRotations : diffuse2 = xorRotations [0, 8, 14, 22, 30] :=
  funext fun x => (diffuse2_eq_rotateLeft x).trans (xor_rotateLeft_eq_xorRotations x 8 14 22 30)

/-- What `L1` and `L2` share as XORs of an odd number of rotations: the word of all ones is kept, and the transform is
linear and a bijection (43_f_function.md R80, R81). -/
theorem xorRotations_linear_bijection {ks : List Nat} (hodd : Odd ks.length) :
    xorRotations ks 0xFFFFFFFF#32 = 0xFFFFFFFF#32 ∧
      (∀ a b : Word, xorRotations ks (a ^^^ b) = xorRotations ks a ^^^ xorRotations ks b) ∧
      Function.Bijective (xorRotations ks : Word → Word) :=
  ⟨xorRotations_allOnes hodd, xorRotations_xor ks, xorRotations_bijective hodd⟩

/-- Settles O38: `L1` is an XOR of five rotations, an odd number. -/
theorem l1IsALinearBijection : Obligations.L1IsALinearBijection := by
  refine ⟨diffuse1_eq_rotateLeft, ?_⟩
  rw [diffuse1_eq_xorRotations]
  exact xorRotations_linear_bijection (by decide)

/-- Settles O39: `L2` is an XOR of five rotations, an odd number. -/
theorem l2IsALinearBijection : Obligations.L2IsALinearBijection := by
  refine ⟨diffuse2_eq_rotateLeft, ?_⟩
  rw [diffuse2_eq_xorRotations]
  exact xorRotations_linear_bijection (by decide)

/-- The bytes of a word put together from four bytes are those bytes. -/
theorem extractLsb'_append_bytes (a b c d : Byte) :
    (a ++ b ++ c ++ d).extractLsb' 24 8 = a ∧ (a ++ b ++ c ++ d).extractLsb' 16 8 = b ∧
      (a ++ b ++ c ++ d).extractLsb' 8 8 = c ∧ (a ++ b ++ c ++ d).extractLsb' 0 8 = d := by
  have htop {n start : Nat} (x : BitVec n) (y : Byte) (h : 8 ≤ start) :
      (x ++ y).extractLsb' start 8 = x.extractLsb' (start - 8) 8 := BitVec.extractLsb'_append_eq_of_le h
  refine ⟨?_, ?_, ?_, BitVec.extractLsb'_append_eq_right⟩
  · exact (htop _ d (by decide)).trans ((htop _ c (by decide)).trans BitVec.extractLsb'_append_eq_left)
  · exact (htop _ d (by decide)).trans ((htop _ c (by decide)).trans BitVec.extractLsb'_append_eq_right)
  · exact (htop _ d (by decide)).trans BitVec.extractLsb'_append_eq_right

/-- A word is its four bytes put together. -/
theorem append_bytes_eq_self (x : Word) :
    x.extractLsb' 24 8 ++ x.extractLsb' 16 8 ++ x.extractLsb' 8 8 ++ x.extractLsb' 0 8 = x := by
  rw [BitVec.extractLsb'_append_extractLsb'_eq_extractLsb' (by rfl),
    BitVec.extractLsb'_append_extractLsb'_eq_extractLsb' (by rfl),
    BitVec.extractLsb'_append_extractLsb'_eq_extractLsb' (by rfl), BitVec.extractLsb'_eq_self]

/-- The bytes of `SBOX32(x)` are the table entries of the bytes of `x` (43_f_function.md R82). -/
theorem sbox32_bytes (x : Word) :
    (sbox32 x).extractLsb' 24 8 = readS0 (x.extractLsb' 24 8) ∧
      (sbox32 x).extractLsb' 16 8 = readS1 (x.extractLsb' 16 8) ∧
      (sbox32 x).extractLsb' 8 8 = readS0 (x.extractLsb' 8 8) ∧
      (sbox32 x).extractLsb' 0 8 = readS1 (x.extractLsb' 0 8) :=
  extractLsb'_append_bytes _ _ _ _

/-- SBOX32 is injective: equal words have equal bytes, and each table is injective (43_f_function.md R82, 20_memory.md
R37). -/
theorem sbox32_injective : Function.Injective sbox32 := by
  intro x y hxy
  obtain ⟨hx3, hx2, hx1, hx0⟩ := sbox32_bytes x
  obtain ⟨hy3, hy2, hy1, hy0⟩ := sbox32_bytes y
  have h3 := readS0_bijective.injective (hx3.symm.trans (hxy ▸ hy3))
  have h2 := readS1_bijective.injective (hx2.symm.trans (hxy ▸ hy2))
  have h1 := readS0_bijective.injective (hx1.symm.trans (hxy ▸ hy1))
  have h0 := readS1_bijective.injective (hx0.symm.trans (hxy ▸ hy0))
  rw [← append_bytes_eq_self x, ← append_bytes_eq_self y, h3, h2, h1, h0]

/-- Settles O41: the bytes, and injectivity on the finite set of words. -/
theorem sboxIsABytewiseBijection : Obligations.SboxIsABytewiseBijection :=
  ⟨sbox32_bytes, Finite.injective_iff_bijective.mp sbox32_injective⟩

/-- The crossing of two words by shifts (43_f_function.md R84). -/
theorem crossHalves_eq_shifts (a b : Word) : crossHalves a b = (a <<< 16) ||| (b >>> 16) := by
  have hlow : (a.extractLsb' 0 16).setWidth 32 <<< 16 = a <<< 16 := by
    apply BitVec.eq_of_getLsbD_eq
    intro i hi
    have hin : i - 16 < 16 := by omega
    have hin32 : i - 16 < 32 := by omega
    simp only [BitVec.getLsbD_shiftLeft, BitVec.getLsbD_setWidth, BitVec.getLsbD_extractLsb', Nat.zero_add, hin, hin32,
      decide_true, Bool.true_and]
  have hhigh : (b.extractLsb' 16 16).setWidth 32 = b >>> 16 := by
    have hfits : (b >>> 16).toNat < 2 ^ 16 := BitVec.toNat_ushiftRight_lt b 16 (by decide)
    apply BitVec.eq_of_toNat_eq
    rw [BitVec.toNat_setWidth_of_le (by decide), BitVec.extractLsb'_toNat, ← BitVec.toNat_ushiftRight,
      Nat.mod_eq_of_lt hfits]
  rw [crossHalves, append_halves_eq_shiftLeft_or, hlow, hhigh]

/-- Settles O42: F reads the old `R1` and `R2`, and both crossings are shifts. -/
theorem fByTheFormulas : Obligations.FByTheFormulas := by
  intro x0 x1 x2 r1 r2
  rw [← crossHalves_eq_shifts, ← crossHalves_eq_shifts]
  exact ⟨rfl, rfl, rfl⟩

end Sys2Proof.Laws
end

section
/-! What each command does on a core without fault, an equation per case (spec/44_commands.md R90 to R94), what it
leaves unchanged, and the two kinds of round (R87, R88). On a faulted core every command is `exec_faulted`. -/

namespace Sys2Proof.Laws

open Machine

section

variable {s : State}

/-- NOP on a core without fault only responds (44_commands.md R93). -/
theorem exec_nop (hf : s.fault = 0) : exec .nop s = .next (respond 0 none s) :=
  congrArg Host.Outcome.next (unlessFaulted_clear hf)

/-- INIT with both lengths 16 on a core without fault (44_commands.md R90). -/
theorem exec_init_accepted (key iv : BitVec 128) (hf : s.fault = 0) :
    exec (.init 16 16 key iv) s = .next (initialize128 key iv s) :=
  congrArg Host.Outcome.next (unlessFaulted_clear hf)

/-- NEXT on an initialized core without fault draws one word (44_commands.md R91). -/
theorem exec_next_inited (hf : s.fault = 0) (hi : s.inited = true) : exec .next s = .next (drawWord s) := by
  rw [exec, execNext, unlessFaulted_clear hf, if_pos hi]

/-- NEXT on an uninitialized core without fault takes the fatal fault Uninitialized (44_commands.md R91, 60_exceptions.md
R115). -/
theorem exec_next_uninited (hf : s.fault = 0) (hi : s.inited = false) :
    exec .next s = .next (respond 2 none (setFault 2 s)) := by
  rw [exec, execNext, unlessFaulted_clear hf, if_neg (by simp [hi]), raiseFault_uninitialized]

/-- RSVD on a core without fault takes the fatal fault IllegalCommand (44_commands.md R94, 60_exceptions.md R116). -/
theorem exec_rsvd (hf : s.fault = 0) : exec .rsvd s = .next (respond 3 none (setFault 3 s)) := by
  rw [exec, execRsvd, unlessFaulted_clear hf, raiseFault_illegalCommand]

end

/-- The rounds of INIT are the iterates of ROUND_INIT (44_commands.md R90). -/
theorem initRounds_eq_iterate (n : Nat) (r : Regs) : initRounds n r = roundInit^[n] r := by
  induction n generalizing r with
  | zero => rfl
  | succ n ih => exact ih (roundInit r)

/-- Settles O19: NOP runs behind the FAULT check and only responds. -/
theorem nopOnlyResponds : Obligations.NopOnlyResponds :=
  fun _ => ⟨exec_nop, exec_faulted .nop⟩

/-- Settles O20: the accepted INIT, the rejected one and the faulted core; the registers are 32 iterates of ROUND_INIT. -/
theorem initLoadsAndRunsThirtyTwoRounds : Obligations.InitLoadsAndRunsThirtyTwoRounds := by
  intro s klen ivlen key iv
  refine ⟨?_, ?_, exec_faulted _⟩
  · rintro hf rfl rfl
    rw [exec_init_accepted key iv hf, initialize128_eq, initRegs, initRounds_eq_iterate, loadedRegs]
  · intro hf hlen
    rw [exec_init_rejected key iv s (by omega), unlessFaulted_clear hf]
    rfl

/-- Settles O21: a draw with `WARM` 0 or 1, the fault Uninitialized, and the faulted core. -/
theorem nextWarmsUpOnceAndDrawsOneWord : Obligations.NextWarmsUpOnceAndDrawsOneWord := by
  refine fun s => ⟨fun hf hi hw => ?_, fun hf hi hw => ?_, exec_next_uninited, exec_faulted .next⟩ <;>
    rw [exec_next_inited hf hi, drawWord_eq, hw] <;> rfl

/-- Settles O22: RSVD takes the fatal fault with code 3 unless the core is faulted already. -/
theorem reservedOpcodeIsFatal : Obligations.ReservedOpcodeIsFatal :=
  fun _ => ⟨exec_rsvd, exec_faulted .rsvd⟩

/-- Settles O26: each row of the transition table writes only what its command may write (44_commands.md R98). -/
theorem commandFrames : Obligations.CommandFrames := by
  intro i s t ht
  obtain ⟨t', ht', hcases⟩ := exec_cases i s
  obtain rfl := Host.Outcome.next.inj (ht'.symm.trans ht)
  rcases hcases with ⟨-, rfl⟩ | ⟨-, -, rfl⟩ | ⟨-, key, iv, rfl, rfl⟩ | ⟨-, -, rfl⟩ | ⟨-, hi, rfl, rfl⟩ |
    ⟨-, hi, rfl, rfl⟩ | ⟨-, rfl, rfl⟩
  · exact ⟨rfl, rfl, fun _ => rfl, fun _ _ => ⟨rfl, rfl⟩, fun _ _ => rfl⟩
  · exact ⟨rfl, rfl, fun _ => rfl, fun _ _ => ⟨rfl, rfl⟩, fun _ _ => rfl⟩
  · exact ⟨rfl, rfl, fun hne => absurd rfl (hne key iv), fun hne _ => absurd rfl (hne key iv), fun _ _ => rfl⟩
  · exact ⟨rfl, rfl, fun _ => rfl, fun _ _ => ⟨rfl, rfl⟩, fun _ _ => rfl⟩
  · exact ⟨rfl, rfl, fun _ => rfl, fun _ _ => ⟨rfl, rfl⟩, fun _ hinit => absurd (hinit rfl) (by simp [hi])⟩
  · exact ⟨rfl, rfl, fun _ => rfl, fun _ huninit => absurd (huninit rfl) (by simp [hi]), fun _ _ => rfl⟩
  · exact ⟨rfl, rfl, fun _ => rfl, fun _ _ => ⟨rfl, rfl⟩, fun hne _ => absurd rfl hne⟩

/-- Settles O28: what a successful INIT writes does not read the state before. -/
theorem initForgetsTheStateBefore : Obligations.InitForgetsTheStateBefore :=
  fun _ _ key iv hf hf' =>
    ⟨_, _, exec_init_accepted key iv hf, exec_init_accepted key iv hf', rfl, rfl, rfl, by simp [hf, hf'], rfl⟩

/-- `W[31:1]` is `W` shifted right by one, its top bit 0 and dropped (41_lfsr.md R73). -/
theorem externalInput_eq_shift (w : Word) : externalInput w = (w >>> 1).setWidth 31 := by
  apply BitVec.eq_of_toNat_eq
  rw [externalInput, BitVec.extractLsb'_toNat, BitVec.toNat_setWidth, BitVec.toNat_ushiftRight]

/-- Settles O43: both rounds as defined, with `u = W[31:1]` by a shift. -/
theorem roundsFeedTheRegister : Obligations.RoundsFeedTheRegister := by
  intro r
  simp only [← externalInput_eq_shift]
  exact ⟨rfl, rfl, rfl, rfl⟩

end Sys2Proof.Laws
end

section
/-! What a host that issues commands gets (spec/44_commands.md R92, R95, spec/49_host_transforms.md R100, R112). The
response port is no state that a command reads, so a command that only responds changes no later word; and on an
initialized core a list of NEXT commands is the iterated draw, which runs one work-mode round a word. -/

namespace Sys2Proof.Laws

open Machine

section

variable {s : State}

/-- A host that presents the word of a well-formed command gets the state exec answers for it (30_encoding.md R50). -/
theorem issue_of_exec {i : Instr} {t : State} (hwf : WellFormed i = true) (h : exec i s = .next t) : issue i s = t :=
  issue_eq ((decode_encode hwf).symm ▸ h)

/-- A host that presents an INIT with both lengths 16 to a core without fault. -/
theorem issue_init_accepted (key iv : BitVec 128) (hf : s.fault = 0) :
    issue (.init 16 16 key iv) s = initialize128 key iv s :=
  issue_of_exec rfl (exec_init_accepted key iv hf)

/-- A host that presents a NEXT to an initialized core without fault. -/
theorem issue_next_inited (hf : s.fault = 0) (hi : s.inited = true) : issue .next s = drawWord s :=
  issue_of_exec rfl (exec_next_inited hf hi)

/-- A host that presents a NEXT to an uninitialized core without fault. -/
theorem issue_next_uninited (hf : s.fault = 0) (hi : s.inited = false) :
    issue .next s = respond 2 none (setFault 2 s) :=
  issue_of_exec rfl (exec_next_uninited hf hi)

/-- A host that presents a NOP to a core without fault. -/
theorem issue_nop (hf : s.fault = 0) : issue .nop s = respond 0 none s :=
  issue_of_exec rfl (exec_nop hf)

/-- A host that presents an INIT with a wrong length that can be encoded to a core without fault. -/
theorem issue_init_rejected {klen ivlen : Nat} (key iv : BitVec 128) (hk : klen ≤ 31) (hiv : ivlen ≤ 31)
    (hlen : klen ≠ 16 ∨ ivlen ≠ 16) (hf : s.fault = 0) : issue (.init klen ivlen key iv) s = respond 1 none s := by
  have hwf : WellFormed (.init klen ivlen key iv) = true := by simp [WellFormed, lengthEncodable, hk, hiv]
  apply issue_of_exec hwf
  rw [exec_init_rejected key iv s (by omega), unlessFaulted_clear hf]

/-- A faulted core only responds with the stored code, whatever the host presents (60_exceptions.md R122). -/
theorem issue_faulted (i : Instr) (h : s.fault ≠ 0) : issue i s = respond s.fault none s :=
  issue_eq (exec_faulted _ h)

end

@[simp] theorem responseWord_respond (c : BitVec 2) (z : Option Word) (s : State) : responseWord (respond c z s) = z :=
  rfl

/-- No command reads the response port (10_state.md R15, 30_encoding.md R53). -/
theorem exec_respond (i : Instr) (c : BitVec 2) (z : Option Word) (s : State) : exec i (respond c z s) = exec i s := by
  cases i <;> rfl

/-- What a host gets does not depend on the response port before. -/
theorem issue_respond (i : Instr) (c : BitVec 2) (z : Option Word) (s : State) : issue i (respond c z s) = issue i s := by
  obtain ⟨t, ht, -⟩ := exec_cases (decode (encode i)) s
  rw [issue_eq ht, issue_eq ((exec_respond _ c z s).trans ht)]

/-- The words a host gets do not depend on the response port before. -/
theorem issueAll_respond (commands : List Instr) (c : BitVec 2) (z : Option Word) (s : State) :
    (issueAll commands (respond c z s)).1 = (issueAll commands s).1 := by
  cases commands with
  | nil => rfl
  | cons i rest => rw [issueAll_cons, issueAll_cons, issue_respond]

/-- Two lists of commands one after the other (20_memory.md R43). -/
theorem issueAll_append (xs ys : List Instr) (s : State) :
    issueAll (xs ++ ys) s =
      ((issueAll xs s).1 ++ (issueAll ys (issueAll xs s).2).1, (issueAll ys (issueAll xs s).2).2) := by
  induction xs generalizing s with
  | nil => rfl
  | cons i rest ih => rw [List.cons_append, issueAll_cons, ih, issueAll_cons, List.append_assoc]

/-- A faulted core gives no words (60_exceptions.md R122). -/
theorem issueAll_faulted (commands : List Instr) {s : State} (h : s.fault ≠ 0) : (issueAll commands s).1 = [] := by
  induction commands generalizing s with
  | nil => rfl
  | cons i rest ih =>
    rw [issueAll_cons, issue_faulted i h, ih (s := respond s.fault none s) h]
    rfl

/-- Settles O44: the commands are appended lists, and an uninitialized core is faulted after its first NEXT. -/
theorem nextNConcatenates : Obligations.NextNConcatenates := by
  refine ⟨nextN_zero, fun a b s => ?_, fun n s hf hi => ?_⟩
  · rw [nextN, List.replicate_add, issueAll_append, ← nextN, ← nextN]
  · cases n with
    | zero => rfl
    | succ n =>
      have hfaulted : (respond 2 none (setFault 2 s)).fault ≠ 0 := by simp
      rw [nextN_succ, issue_next_uninited hf hi, nextN, issueAll_faulted _ hfaulted]
      rfl

/-- The registers from which the next draw runs the round whose word it returns, the warm-up round done
(44_commands.md R91). -/
def readyRegs (s : State) : Regs := warmedRegs s.warm s.regs

@[simp] theorem readyRegs_initialize128 (key iv : BitVec 128) (s : State) :
    readyRegs (initialize128 key iv s) = roundWork (initRegs key iv) := rfl

/-- A draw writes the registers of one work-mode round after the warm-up (44_commands.md R91). -/
theorem drawWord_regs_eq_readyRegs (s : State) : (drawWord s).regs = roundWork (readyRegs s) := rfl

@[simp] theorem responseWord_drawWord (s : State) : responseWord (drawWord s) = some (roundWord (readyRegs s)) := rfl

/-- A draw is one work-mode round, and it leaves nothing to warm up (44_commands.md R91). -/
@[simp] theorem readyRegs_drawWord (s : State) : readyRegs (drawWord s) = roundWork (readyRegs s) := rfl

/-- The ready registers after any number of draws (44_commands.md R91). -/
theorem readyRegs_iterate_drawWord (n : Nat) (s : State) : readyRegs (drawWord^[n] s) = roundWork^[n] (readyRegs s) :=
  Function.Semiconj.iterate_right readyRegs_drawWord n s

/-- The words of `n` work-mode rounds in a row, from the registers of the first (44_commands.md R88, R92). -/
def roundWords (n : Nat) (r : Regs) : List Word := (List.range n).map fun i => roundWord (roundWork^[i] r)

@[simp] theorem roundWords_length (n : Nat) (r : Regs) : (roundWords n r).length = n := by simp [roundWords]

/-- The first word, and then those of the rounds after it. -/
theorem roundWords_succ (n : Nat) (r : Regs) : roundWords (n + 1) r = roundWord r :: roundWords n (roundWork r) := by
  rw [roundWords, List.range_succ_eq_map]
  simp [roundWords, Function.comp_def]

/-- The words with one round before the first discarded. -/
theorem roundWords_roundWork (n : Nat) (r : Regs) :
    roundWords n (roundWork r) = (List.range n).map fun i => roundWord (roundWork^[i + 1] r) := rfl

/-- On an initialized core without fault, `NEXTN n` is `n` draws, and its words are those of the rounds from the ready
registers on (44_commands.md R91, R95). -/
theorem nextN_inited (n : Nat) {s : State} (hf : s.fault = 0) (hi : s.inited = true) :
    nextN n s = (roundWords n (readyRegs s), drawWord^[n] s) := by
  induction n generalizing s with
  | zero => rfl
  | succ n ih =>
    rw [nextN_succ, issue_next_inited hf hi, ih ((drawWord_fault s).trans hf) ((drawWord_inited s).trans hi),
      readyRegs_drawWord, roundWords_succ, Function.iterate_succ_apply, responseWord_drawWord]
    rfl

/-- Draws leave `FAULT` and `INITED` (44_commands.md R91). -/
theorem iterate_drawWord_flags (n : Nat) {s : State} (hf : s.fault = 0) (hi : s.inited = true) :
    (drawWord^[n] s).fault = 0 ∧ (drawWord^[n] s).inited = true := by
  induction n generalizing s with
  | zero => exact ⟨hf, hi⟩
  | succ n ih => exact ih ((drawWord_fault s).trans hf) ((drawWord_inited s).trans hi)

/-- Settles O45: each NEXT of an initialized core is a draw. -/
theorem initializedCoreAnswersEveryDraw : Obligations.InitializedCoreAnswersEveryDraw := by
  intro n s hf hi
  rw [nextN_inited n hf hi]
  exact ⟨roundWords_length n _, iterate_drawWord_flags n hf hi⟩

/-- The registers after at least one draw (44_commands.md R91). -/
theorem iterate_drawWord_regs (n : Nat) (s : State) : (drawWord^[n + 1] s).regs = roundWork^[n + 1] (readyRegs s) := by
  rw [Function.iterate_succ_apply', drawWord_regs_eq_readyRegs, readyRegs_iterate_drawWord,
    ← Function.iterate_succ_apply' roundWork]

/-- The keystream of a core without fault: the draws after INIT (49_host_transforms.md R100). -/
theorem keystream_eq (key iv : BitVec 128) (l : Nat) {s : State} (hf : s.fault = 0) :
    keystream key iv l s =
      (roundWords l (roundWork (initRegs key iv)), drawWord^[l] (initialize128 key iv s)) := by
  rw [keystream, issue_init_accepted key iv hf, nextN_inited l ((initialize128_fault key iv s).trans hf)
    (initialize128_inited key iv s), readyRegs_initialize128]

/-- Settles O47: the draws after INIT, the warm-up round being the first of the work rounds. -/
theorem keystreamIsTheRoundsAfterTheWarmUp : Obligations.KeystreamIsTheRoundsAfterTheWarmUp := by
  intro s key iv l hf
  rw [keystream_eq key iv l hf, roundWords_roundWork]
  refine ⟨rfl, ?_⟩
  cases l with
  | zero => rw [if_pos rfl, Function.iterate_zero_apply, initialize128_regs]
  | succ n =>
    rw [if_neg n.succ_ne_zero, iterate_drawWord_regs, readyRegs_initialize128, Function.iterate_succ_apply _ (n + 1)]

/-- Settles O46: the closed form of the words names key and IV only. -/
theorem keystreamDependsOnKeyAndIvOnly : Obligations.KeystreamDependsOnKeyAndIvOnly := by
  intro s s' key iv l hf hf'
  rw [keystream_eq key iv l hf, keystream_eq key iv l hf']
  exact ⟨rfl, roundWords_length l _⟩

/-- Settles O48: a silent command only responds, so by induction over the list the words are those of the draws. -/
theorem silentCommandsKeepTheKeystream : Obligations.SilentCommandsKeepTheKeystream := by
  intro commands s hf hi hcommands
  induction commands generalizing s with
  | nil => rfl
  | cons i rest ih =>
    obtain ⟨hfirst, hrest⟩ := List.forall_mem_cons.mp hcommands
    have hsilent (c : BitVec 2) (hne : i ≠ .next) (hissue : issue i s = respond c none s) :
        (issueAll (i :: rest) s).1 = (nextN ((i :: rest).count .next) s).1 := by
      rw [issueAll_cons, hissue, ih (respond c none s) hf hi hrest, List.count_cons_of_ne hne]
      exact issueAll_respond _ c none s
    rcases hfirst with rfl | rfl | ⟨klen, ivlen, key, iv, rfl, hk, hiv, hlen⟩
    · exact hsilent 0 (by simp) (issue_nop hf)
    · rw [issueAll_cons, List.count_cons_self, nextN_succ, issue_next_inited hf hi,
        ih (drawWord s) ((drawWord_fault s).trans hf) ((drawWord_inited s).trans hi) hrest]
    · exact hsilent 1 (by simp) (issue_init_rejected key iv hk hiv hlen hf)

/-- Settles O56: the closed form of the three words, evaluated; the reset registers, of which nothing is known, do not
occur in it. -/
theorem zeroKeyKeystreamVector : Obligations.ZeroKeyKeystreamVector := by
  rw [Obligations.ZeroKeyKeystreamVector, keystream_eq 0 0 3 rfl]
  decide +kernel

end Sys2Proof.Laws
end

section
/-! The two IV layouts (spec/49_host_transforms.md R103, R106): each is two halves of eight bytes. The halves of the
confidentiality IV are the same; the second half of the integrity IV is the first with the direction bit flipped in
(spec/90_conflicts.md C9). -/

namespace Sys2Proof.Laws

open Machine

/-- The first eight bytes of both IVs: the counter, the byte of the bearer and three zero bytes (49_host_transforms.md
R103, R106). -/
def ivHalf (counter : Word) (b4 : Byte) : BitVec 64 := counter ++ b4 ++ 0#24

/-- What the direction changes in the second half of the integrity IV: its bytes 0 and 6 (49_host_transforms.md R106). -/
def flipMask (flip : Byte) : BitVec 64 := flip ++ 0#40 ++ flip ++ 0#8

/-- Byte 4 of the confidentiality IV (49_host_transforms.md R103). -/
def confByteFour (bearer : Nat) (d : Direction) : Byte := BitVec.ofNat 8 ((bearer <<< 3) ||| (directionBit d <<< 2))

/-- A first half with a second half after it, part by part. -/
theorem ivHalf_append (counter : Word) (b4 : Byte) (y : BitVec 64) :
    ivHalf counter b4 ++ y = counter ++ (b4 ++ (0#24 ++ y)) := by
  have hassoc : (counter ++ b4 ++ 0#24) ++ y = counter ++ (b4 ++ (0#24 ++ y)) := by
    simp only [BitVec.append_assoc, BitVec.cast_eq]
  exact hassoc

theorem confIV_eq_halves (counter : Word) (bearer : Nat) (d : Direction) :
    confIV counter bearer d =
      ivHalf counter (confByteFour bearer d) ++ ivHalf counter (confByteFour bearer d) := by
  rw [ivHalf_append]
  simp only [confIV, ivHalf, confByteFour, BitVec.append_assoc, BitVec.cast_eq]

/-- The second half of the integrity IV is the first half with the direction flipped in (90_conflicts.md C9). -/
theorem ivHalf_xor_flipMask (counter : Word) (b4 flip : Byte) :
    ivHalf counter b4 ^^^ flipMask flip = (counter ^^^ (flip ++ 0#24)) ++ b4 ++ 0#8 ++ flip ++ 0#8 := by
  have hhalf : ivHalf counter b4 = counter ++ (b4 ++ (0#8 ++ (0#8 ++ 0#8))) := by
    simp only [ivHalf, BitVec.append_assoc, BitVec.cast_eq]
    rfl
  have hmask : flipMask flip = (flip ++ 0#24 : Word) ++ (0#8 ++ (0#8 ++ (flip ++ 0#8))) := by
    have hzeros : 0#40 = 0#24 ++ (0#8 ++ 0#8) := rfl
    simp only [flipMask, hzeros, BitVec.append_assoc, BitVec.cast_eq]
  rw [hhalf, hmask]
  refine (BitVec.xor_append (x₁ := counter)).trans ?_
  simp only [BitVec.xor_append, BitVec.xor_zero, BitVec.zero_xor, BitVec.append_assoc, BitVec.cast_eq]

theorem integIV_eq_halves (counter : Word) (bearer : Nat) (d : Direction) :
    integIV counter bearer d =
      ivHalf counter (BitVec.ofNat 8 (bearer <<< 3)) ++
        (ivHalf counter (BitVec.ofNat 8 (bearer <<< 3)) ^^^ flipMask (BitVec.ofNat 8 (directionBit d <<< 7))) := by
  rw [ivHalf_append, ivHalf_xor_flipMask]
  simp only [integIV, BitVec.append_assoc, BitVec.cast_eq]

/-- Byte `i` of a field's half, byte 0 topmost. -/
def halfByte (half : BitVec 64) (i : Nat) : Byte := half.extractLsb' (56 - 8 * i) 8

theorem fieldByte_append_of_lt (x y : BitVec 64) {i : Nat} (h : i < 8) : fieldByte (x ++ y) i = halfByte x i := by
  rw [fieldByte, halfByte, BitVec.extractLsb'_append_eq_of_le (by omega), show 120 - 8 * i - 64 = 56 - 8 * i by omega]

theorem fieldByte_append_of_ge (x y : BitVec 64) {i : Nat} (h : 8 ≤ i) (hi : i < 16) :
    fieldByte (x ++ y) i = halfByte y (i - 8) := by
  rw [fieldByte, halfByte, BitVec.extractLsb'_append_eq_of_add_le (by omega),
    show 120 - 8 * i = 56 - 8 * (i - 8) by omega]

theorem halfByte_ivHalf_counter (counter : Word) (b4 : Byte) {i : Nat} (h : i < 4) :
    halfByte (ivHalf counter b4) i = counter.extractLsb' (24 - 8 * i) 8 := by
  rw [halfByte, ivHalf, BitVec.extractLsb'_append_eq_of_le (by omega), BitVec.extractLsb'_append_eq_of_le (by omega),
    show 56 - 8 * i - 24 - 8 = 24 - 8 * i by omega]

theorem halfByte_ivHalf_four (counter : Word) (b4 : Byte) : halfByte (ivHalf counter b4) 4 = b4 := by
  rw [halfByte, ivHalf, BitVec.extractLsb'_append_eq_of_le (by decide)]
  exact BitVec.extractLsb'_append_eq_right

theorem halfByte_ivHalf_zero (counter : Word) (b4 : Byte) {i : Nat} (h : 5 ≤ i) (hi : i < 8) :
    halfByte (ivHalf counter b4) i = 0#8 := by
  rw [halfByte, ivHalf, BitVec.extractLsb'_append_eq_of_add_le (by omega), BitVec.extractLsb'_zero]

theorem halfByte_xor (x y : BitVec 64) (i : Nat) : halfByte (x ^^^ y) i = halfByte x i ^^^ halfByte y i :=
  BitVec.extractLsb'_xor

/-- Only bytes 0 and 6 of a half are flipped: bytes 8 and 14 of the IV (49_host_transforms.md R106). -/
theorem halfByte_flipMask (flip : Byte) {i : Nat} (h : i < 8) :
    halfByte (flipMask flip) i = if i = 0 ∨ i = 6 then flip else 0#8 := by
  rw [halfByte, flipMask]
  rcases (by omega : i = 7 ∨ i = 6 ∨ (1 ≤ i ∧ i ≤ 5) ∨ i = 0) with rfl | rfl | ⟨hlow, hhigh⟩ | rfl
  · exact BitVec.extractLsb'_append_eq_right
  · rw [BitVec.extractLsb'_append_eq_of_le (by decide)]
    exact BitVec.extractLsb'_append_eq_right
  · rw [BitVec.extractLsb'_append_eq_of_le (by omega), BitVec.extractLsb'_append_eq_of_le (by omega),
      BitVec.extractLsb'_append_eq_of_add_le (by omega), BitVec.extractLsb'_zero, if_neg (by omega)]
  · rw [BitVec.extractLsb'_append_eq_of_le (by decide), BitVec.extractLsb'_append_eq_of_le (by decide)]
    exact BitVec.extractLsb'_append_eq_left

/-- A byte made of a number keeps the number's low eight bits (49_host_transforms.md R103). -/
theorem ofNat_and_low_byte (n : Nat) : BitVec.ofNat 8 (n &&& 0xFF) = BitVec.ofNat 8 n := by
  apply BitVec.eq_of_toNat_eq
  rw [BitVec.toNat_ofNat, BitVec.toNat_ofNat, show (0xFF : Nat) = 2 ^ 8 - 1 from rfl, Nat.and_two_pow_sub_one_eq_mod,
    Nat.mod_mod]

/-- Settles O49: both IVs by their halves, and the bytes of a half. -/
theorem ivLayoutsByteByByte : Obligations.IvLayoutsByteByByte := by
  intro counter bearer d
  simp only [confIV_eq_halves, integIV_eq_halves, ofNat_and_low_byte]
  refine ⟨fun i hi => ?_, ?_, ?_, fun i hlow hi => ?_, fun i hlow hi => ?_, fun i hlow hi => ?_⟩
  · rw [fieldByte_append_of_lt _ _ (by omega), fieldByte_append_of_lt _ _ (by omega)]
    exact ⟨halfByte_ivHalf_counter _ _ hi, halfByte_ivHalf_counter _ _ hi⟩
  · rw [fieldByte_append_of_lt _ _ (by decide), halfByte_ivHalf_four]
    rfl
  · rw [fieldByte_append_of_lt _ _ (by decide), halfByte_ivHalf_four]
  · rw [fieldByte_append_of_lt _ _ hi, fieldByte_append_of_lt _ _ hi]
    exact ⟨halfByte_ivHalf_zero _ _ hlow hi, halfByte_ivHalf_zero _ _ hlow hi⟩
  · rw [fieldByte_append_of_ge _ _ hlow hi, fieldByte_append_of_lt _ _ (by omega)]
  · rw [fieldByte_append_of_ge _ _ hlow hi, fieldByte_append_of_lt _ _ (by omega), halfByte_xor,
      halfByte_flipMask _ (by omega)]
    by_cases hflip : i = 8 ∨ i = 14
    · rw [if_pos hflip, if_pos (by omega)]
      rfl
    · rw [if_neg hflip, if_neg (by omega)]
      exact BitVec.xor_zero

end Sys2Proof.Laws
end

section
/-! The words of the keystream and the bytes of a message as one string of bits, most significant bit first
(spec/49_host_transforms.md R104, R107, R108, spec/00_scope.md R11). -/

namespace Sys2Proof.Laws

open Machine

/-- Bit `p` of the keystream seen as one string of bits, word 0 first, most significant bit first; 0 after the last word
(49_host_transforms.md R108). -/
def streamBit (z : List Word) (p : Nat) : Bool := (z.getD (p / 32) 0).getLsbD (31 - p % 32)

@[simp] theorem streamBit_nil (p : Nat) : streamBit [] p = false := BitVec.getLsbD_zero

/-- The stream of a first word and of the words after it. -/
theorem streamBit_cons (w : Word) (z : List Word) (p : Nat) :
    streamBit (w :: z) p = if p < 32 then w.getLsbD (31 - p) else streamBit z (p - 32) := by
  by_cases h : p < 32
  · rw [if_pos h, streamBit, Nat.div_eq_of_lt h, Nat.mod_eq_of_lt h, List.getD_cons_zero]
  · rw [if_neg h, streamBit, show p / 32 = (p - 32) / 32 + 1 by omega, show p % 32 = (p - 32) % 32 by omega,
      List.getD_cons_succ, streamBit]

/-- A window that does not stand at a word's start takes its bits from two words (49_host_transforms.md R108). -/
theorem keystreamWindow_bit (z : List Word) (i : Nat) {j : Nat} (hj : j < 32) :
    (keystreamWindow z i).getLsbD (31 - j) = streamBit z (i + j) := by
  rw [keystreamWindow, streamBit]
  by_cases haligned : i % 32 = 0
  · rw [if_pos haligned, show (i + j) / 32 = i / 32 by omega, show (i + j) % 32 = j by omega]
  rw [if_neg haligned, BitVec.getLsbD_or, BitVec.getLsbD_shiftLeft, BitVec.getLsbD_ushiftRight]
  by_cases hfirst : i % 32 + j < 32
  · have hsecond : (z.getD (i / 32 + 1) 0).getLsbD (32 - i % 32 + (31 - j)) = false :=
      BitVec.getLsbD_of_ge _ _ (by omega)
    rw [hsecond, show (i + j) / 32 = i / 32 by omega, show 31 - j - i % 32 = 31 - (i + j) % 32 by omega]
    simp only [show 31 - j < 32 by omega, show ¬ 31 - j < i % 32 by omega, decide_true, decide_false, Bool.not_false,
      Bool.true_and, Bool.or_false]
  · rw [show (i + j) / 32 = i / 32 + 1 by omega, show 32 - i % 32 + (31 - j) = 31 - (i + j) % 32 by omega]
    simp only [show 31 - j < i % 32 by omega, decide_true, Bool.not_true, Bool.and_false, Bool.false_and,
      Bool.false_or]

/-- Settles O50: the window's bits are those of the stream. -/
theorem windowIsThirtyTwoBitsOfTheStream : Obligations.WindowIsThirtyTwoBitsOfTheStream :=
  fun z i _ _ hj => keystreamWindow_bit z i hj

/-- A message has no bit 1 after its last byte. -/
theorem messageBit_of_ge {message : List Byte} {i : Nat} (h : message.length ≤ i / 8) :
    messageBit message i = false := by
  rw [messageBit, List.getD_eq_default _ _ h]
  exact BitVec.getLsbD_zero

/-- Bit `r` of byte `j` of a message, the topmost bit first (49_host_transforms.md R107). -/
theorem messageBit_byte (message : List Byte) (j : Nat) {r : Nat} (h : r < 8) :
    messageBit message (8 * j + r) = (message.getD j 0).getLsbD (7 - r) := by
  rw [messageBit, show (8 * j + r) / 8 = j by omega, show (8 * j + r) % 8 = r by omega]

/-- The bits of a first part and of the bytes after it. -/
theorem messageBit_append (front back : List Byte) (i : Nat) :
    messageBit (front ++ back) i =
      if i < 8 * front.length then messageBit front i else messageBit back (i - 8 * front.length) := by
  by_cases h : i < 8 * front.length
  · rw [if_pos h, messageBit, List.getD_append _ _ _ _ (by omega), messageBit]
  · rw [if_neg h, messageBit, List.getD_append_right _ _ _ _ (by omega), messageBit,
      show i / 8 - front.length = (i - 8 * front.length) / 8 by omega,
      show i % 8 = (i - 8 * front.length) % 8 by omega]

/-- The bits of a word's four bytes are the word's, most significant first (00_scope.md R11). -/
theorem messageBit_wordBytes (w : Word) {i : Nat} (h : i < 32) : messageBit (wordBytes w) i = w.getLsbD (31 - i) := by
  have hbyte (j : Nat) (hj : j < 4) : (wordBytes w).getD j 0 = w.extractLsb' (24 - 8 * j) 8 := by
    interval_cases j <;> rfl
  rw [messageBit, hbyte _ (by omega), BitVec.getLsbD_extractLsb', show 24 - 8 * (i / 8) + (7 - i % 8) = 31 - i by omega,
    decide_eq_true (by omega), Bool.true_and]

/-- The bytes of the keystream's words, one word after another, are the same string of bits (49_host_transforms.md
R104). -/
theorem messageBit_flatMap_wordBytes (z : List Word) (i : Nat) : messageBit (z.flatMap wordBytes) i = streamBit z i := by
  induction z generalizing i with
  | nil => rw [streamBit_nil]; exact messageBit_of_ge (Nat.zero_le _)
  | cons w rest ih =>
    rw [List.flatMap_cons, messageBit_append, show 8 * (wordBytes w).length = 32 from rfl, streamBit_cons, ih]
    by_cases h : i < 32
    · rw [if_pos h, if_pos h, messageBit_wordBytes w h]
    · rw [if_neg h, if_neg h]

/-- Two byte sequences of one length with the same bits are the same. -/
theorem eq_of_messageBit {a b : List Byte} (hlen : a.length = b.length) (h : ∀ i, messageBit a i = messageBit b i) :
    a = b := by
  apply List.ext_getElem hlen
  intro j ha hb
  rw [← List.getD_eq_getElem a 0 ha, ← List.getD_eq_getElem b 0 hb]
  apply BitVec.eq_of_getLsbD_eq
  intro k hk
  have hbit := h (8 * j + (7 - k))
  rwa [messageBit_byte a j (by omega), messageBit_byte b j (by omega), show 7 - (7 - k) = k by omega] at hbit

end Sys2Proof.Laws
end

section
/-! Apply, Hash and Verify on a core without fault (spec/49_host_transforms.md R104, R105, R107 to R110): the core gives
all the words asked for, so each answers exactly when the data is long enough. -/

namespace Sys2Proof.Laws

open Machine

/-- The words of `KS(key, iv, l)` on a core without fault (49_host_transforms.md R100). -/
def keystreamWords (key iv : BitVec 128) (l : Nat) : List Word := roundWords l (roundWork (initRegs key iv))

theorem keystreamWords_length (key iv : BitVec 128) (l : Nat) : (keystreamWords key iv l).length = l :=
  roundWords_length l _

/-- No word depends on the core's state before (44_commands.md R92). -/
theorem keystream_words (key iv : BitVec 128) (l : Nat) {s : State} (hf : s.fault = 0) :
    (keystream key iv l s).1 = keystreamWords key iv l := by
  rw [keystream_eq key iv l hf, keystreamWords]

/-- The output of Apply from the keystream's words (49_host_transforms.md R104). -/
def appliedBytes (z : List Word) (data : List Byte) (n : Nat) : List Byte :=
  (List.range data.length).map (appliedByte (z.flatMap wordBytes) data n)

@[simp] theorem appliedBytes_length (z : List Word) (data : List Byte) (n : Nat) :
    (appliedBytes z data n).length = data.length := by simp [appliedBytes]

/-- The mask of the final byte keeps the bits before the bit length (49_host_transforms.md R104). -/
theorem finalByteMask_bit (n : Nat) {r : Nat} (h : r < 8) :
    (finalByteMask n).getLsbD (7 - r) = decide (n % 8 = 0 ∨ r < n % 8) := by
  have hones : (0xFF#8 : Byte) = BitVec.allOnes 8 := rfl
  rw [finalByteMask, hones]
  by_cases hall : n % 8 = 0
  · rw [if_pos hall, BitVec.getLsbD_allOnes, decide_eq_true (by omega), decide_eq_true (.inl hall)]
  · rw [if_neg hall, BitVec.getLsbD_shiftLeft, BitVec.getLsbD_allOnes]
    simp only [show 7 - r < 8 by omega, show 7 - r - (8 - n % 8) < 8 by omega, decide_true, Bool.true_and,
      Bool.and_true, ← decide_not]
    exact decide_eq_decide.mpr (by omega)

/-- Bit `r` of byte `j` that Apply puts out: the data's XORed with the keystream's before the bit length, and 0 from
there on (49_host_transforms.md R104). -/
theorem appliedByte_bit (kb data : List Byte) (n j : Nat) {r : Nat} (h : r < 8) :
    (appliedByte kb data n j).getLsbD (7 - r) =
      (decide (8 * j + r < n) && (messageBit data (8 * j + r) ^^ messageBit kb (8 * j + r))) := by
  rw [appliedByte, messageBit_byte data j h, messageBit_byte kb j h, ← BitVec.getLsbD_xor, ceilDiv]
  by_cases hbeyond : (n + 8 - 1) / 8 ≤ j
  · rw [if_pos hbeyond, decide_eq_false (by omega), Bool.false_and]
    exact BitVec.getLsbD_zero
  rw [if_neg hbeyond]
  by_cases hfinal : j + 1 = (n + 8 - 1) / 8
  · rw [if_pos hfinal, BitVec.getLsbD_and, finalByteMask_bit n h, Bool.and_comm]
    exact congrArg (· && _) (decide_eq_decide.mpr (by omega))
  · rw [if_neg hfinal, decide_eq_true (by omega), Bool.true_and]

/-- Bit `i` that Apply puts out, when the data is long enough (49_host_transforms.md R104). -/
theorem messageBit_appliedBytes (z : List Word) {data : List Byte} {n : Nat} (h : ceilDiv n 8 ≤ data.length) (i : Nat) :
    messageBit (appliedBytes z data n) i = (decide (i < n) && (messageBit data i ^^ streamBit z i)) := by
  by_cases hi : i / 8 < data.length
  · have hbyte : (appliedBytes z data n).getD (i / 8) 0 = appliedByte (z.flatMap wordBytes) data n (i / 8) := by
      rw [List.getD_eq_getElem _ _ (by rwa [appliedBytes_length])]
      simp only [appliedBytes, List.getElem_map, List.getElem_range]
    rw [messageBit, hbyte, appliedByte_bit _ _ _ _ (Nat.mod_lt i (by decide)), Nat.div_add_mod,
      messageBit_flatMap_wordBytes]
  · rw [ceilDiv] at h
    rw [messageBit_of_ge (by rw [appliedBytes_length]; omega), decide_eq_false (by omega), Bool.false_and]

/-- Apply on a core without fault answers exactly when the data holds the bits (49_host_transforms.md R104). -/
theorem confApply_eq (key : BitVec 128) (counter : Word) (bearer : Nat) (d : Direction) (data : List Byte)
    (bitLength : Word) {core : State} (hf : core.fault = 0) :
    confApply core key counter bearer d data bitLength =
      if ceilDiv bitLength.toNat 8 ≤ data.length then
        some (appliedBytes (keystreamWords key (confIV counter bearer d) (ceilDiv bitLength.toNat 32)) data
          bitLength.toNat)
      else none := by
  simp only [confApply, keystream_words _ _ _ hf, keystreamWords_length, and_true, appliedBytes]

/-- Settles O51: the bits of Apply, on the keystream of a core without fault. -/
theorem applyXorsTheFirstBitsAndZeroesTheRest : Obligations.ApplyXorsTheFirstBitsAndZeroesTheRest := by
  intro core key counter bearer d data bitLength hf hlen
  have hlong : ceilDiv bitLength.toNat 8 ≤ data.length := hlen
  rw [keystream_words _ _ _ hf]
  refine ⟨_, (confApply_eq _ _ _ _ _ _ hf).trans (if_pos hlong), appliedBytes_length _ _ _, fun i hi => ?_,
    fun i hi => ?_⟩
  · rw [messageBit_appliedBytes _ hlong, decide_eq_true hi, Bool.true_and]
    rfl
  · rw [messageBit_appliedBytes _ hlong, decide_eq_false (by omega), Bool.false_and]

/-- XORing the same keystream twice restores the bits before the bit length (49_host_transforms.md R105). -/
theorem messageBit_appliedBytes_twice (z : List Word) {data : List Byte} {n : Nat} (h : ceilDiv n 8 ≤ data.length)
    (i : Nat) :
    messageBit (appliedBytes z (appliedBytes z data n) n) i = (decide (i < n) && messageBit data i) := by
  rw [messageBit_appliedBytes z (by rwa [appliedBytes_length]), messageBit_appliedBytes z h]
  by_cases hi : i < n
  · rw [decide_eq_true hi, Bool.true_and, Bool.true_and, Bool.true_and, Bool.xor_assoc, Bool.xor_self, Bool.xor_false]
  · rw [decide_eq_false hi, Bool.false_and, Bool.false_and]

/-- Settles O52: both cores give the same keystream, and XORing it twice restores a bit before the bit length. -/
theorem applyTwiceRestoresTheData : Obligations.ApplyTwiceRestoresTheData := by
  intro core core' key counter bearer d data out bitLength hf hf' hout
  rw [confApply_eq _ _ _ _ _ _ hf, Option.ite_none_right_eq_some] at hout
  obtain ⟨hlong, hout⟩ := hout
  obtain rfl := Option.some.inj hout
  refine ⟨_, (confApply_eq _ _ _ _ _ _ hf').trans (if_pos (by rwa [appliedBytes_length])), fun i hi => ?_,
    fun hzero => eq_of_messageBit (by simp only [appliedBytes_length]) fun i => ?_⟩
  · rw [messageBit_appliedBytes_twice _ hlong, decide_eq_true hi, Bool.true_and]
  · rw [messageBit_appliedBytes_twice _ hlong]
    by_cases hi : i < bitLength.toNat
    · rw [decide_eq_true hi, Bool.true_and]
    · rw [decide_eq_false hi, Bool.false_and, hzero i (by omega)]

/-- Hash on a core without fault answers exactly when the message holds the bits (49_host_transforms.md R109). -/
theorem integHash_eq (key : BitVec 128) (counter : Word) (bearer : Nat) (d : Direction) (message : List Byte)
    (bitLength : Word) {core : State} (hf : core.fault = 0) :
    integHash core key counter bearer d message bitLength =
      if ceilDiv bitLength.toNat 8 ≤ message.length then
        some (wordBytes (foldTag
          (keystreamWords key (integIV counter bearer d) (ceilDiv (bitLength.toNat + 64) 32)) message bitLength.toNat
          (ceilDiv (bitLength.toNat + 64) 32)))
      else none := by
  simp only [integHash, keystream_words _ _ _ hf, keystreamWords_length, and_true]

/-- Settles O53: a message of `n` bits holds `ceil(n/8)` bytes, and the tag is a word's bytes. -/
theorem hashAnswersFourBytes : Obligations.HashAnswersFourBytes := by
  intro core key counter bearer d message bitLength hf hlen
  have hlong : ceilDiv bitLength.toNat 8 ≤ message.length := by
    rw [ceilDiv]
    omega
  exact ⟨_, (integHash_eq _ _ _ _ _ _ hf).trans (if_pos hlong), rfl⟩

/-- Settles O54: Hash answers the same tag on both cores, and Verify compares the candidate with it. -/
theorem verifyAcceptsExactlyTheTag : Obligations.VerifyAcceptsExactlyTheTag := by
  intro core core' key counter bearer d message tag candidate bitLength hf hf' htag
  have htag' : integHash core' key counter bearer d message bitLength = some tag := by
    rw [integHash_eq _ _ _ _ _ _ hf', ← integHash_eq _ _ _ _ _ _ hf, htag]
  rw [integVerify, htag', Option.map_some, beq_eq_decide]
  exact congrArg some (decide_eq_decide.mpr eq_comm)

/-- Settles O57: the tag of Hash in closed form, evaluated; the reset registers, of which nothing is known, do not occur
in it. -/
theorem integrityVector : Obligations.IntegrityVector := by
  rw [Obligations.IntegrityVector, integHash_eq _ _ _ _ _ _ rfl]
  decide +kernel

end Sys2Proof.Laws
end

section
/-! The faults of the core and the way out of them (spec/60_exceptions.md R114, R117, R121 to R123, R130, R134). -/

namespace Sys2Proof.Laws

open Machine

/-- `rst` is taken from the schedule and the core is reset (70_reset_and_hazards.md R131). -/
theorem step_rst {s : State} {rest : List HostMove} (h : s.host = .rst :: rest) :
    step s = .next (hardwareReset { s with host := rest }) := by
  simp [step, nextMove_cons h]

/-- A step in which the host presents an INIT with lengths 16 to a core without fault initializes it (44_commands.md
R90). -/
theorem step_init_accepted {s : State} {key iv : BitVec 128} {rest : List HostMove} (hf : s.fault = 0)
    (h : s.host = .command (encode (.init 16 16 key iv)) :: rest) :
    step s = .next (initialize128 key iv { s with host := rest }) := by
  rw [step_command h, decode_encode rfl]
  exact exec_init_accepted key iv hf

/-- Settles O11: `rst` clears `FAULT`, so the INIT after it runs. -/
theorem resetThenInitLeavesAnyFault : Obligations.ResetThenInitLeavesAnyFault := by
  intro s key iv rest h
  have hrun : runSteps 2 s = .next (initialize128 key iv _) :=
    (runSteps_succ (step_rst h)).trans (runSteps_succ (step_init_accepted (hardwareReset_fault _) rfl))
  exact ⟨_, hrun, rfl, rfl, rfl, rfl, rfl, rfl⟩

/-- A step of a host with nothing left to do only empties the response port (60_exceptions.md R130). -/
theorem step_nil {s : State} (h : s.host = []) : step s = .next (portIdle s) := by
  simp [step, nextMove_nil h]

/-- Settles O8: both ways to present no command leave the port idle. -/
theorem stepWithoutCommandHoldsTheState : Obligations.StepWithoutCommandHoldsTheState :=
  ⟨fun _ => step_nil, fun _ _ => step_idle⟩

/-- Settles O18: the FAULT check comes first in every command. -/
theorem faultedCoreRefusesEveryCommand : Obligations.FaultedCoreRefusesEveryCommand :=
  fun i _ => exec_faulted i

/-- Settles O23: the two fatal faults write `FAULT`, InvalidLength only responds. -/
theorem raiseWritesOnlyFault : Obligations.RaiseWritesOnlyFault :=
  fun s => ⟨raiseFault_invalidLength s, raiseFault_uninitialized s, raiseFault_illegalCommand s⟩

/-- Settles O24: a rejected INIT only responds, and no command reads the response port. -/
theorem rejectedInitLeavesTheNextCommandAsItWas : Obligations.RejectedInitLeavesTheNextCommandAsItWas := by
  intro s t klen ivlen key iv i hf hlen ht
  rw [exec_init_rejected key iv s (by omega), unlessFaulted_clear hf] at ht
  obtain rfl := Host.Outcome.next.inj ht
  exact ⟨rfl, exec_respond i 1 none s⟩

end Sys2Proof.Laws
end

section
/-! Reset from every state, and no hang (spec/70_reset_and_hazards.md R131, R132, R142). -/

namespace Sys2Proof.Laws

open Machine

/-- Settles O9: the step is `hardwareReset`, which clears the three flags and leaves no response. -/
theorem resetMoveClearsTheFlags : Obligations.ResetMoveClearsTheFlags := by
  intro s rest h
  exact ⟨_, step_rst h, hardwareReset_inited _, hardwareReset_warm _, hardwareReset_fault _, hardwareReset_rsp _,
    hardwareReset_host _⟩

/-- Settles O12: each of the four cases of a step answers a next state, a command through `exec`. -/
theorem everyStepAnswersNextState : Obligations.EveryStepAnswersNextState :=
  step_answers_next

end Sys2Proof.Laws
end
